-- ==== Sys2Proof/Word.lean ====
section
/-! DEFINITION. The two word types of SelfMat-CORE (rule R7 of 00_scope.md). -/

namespace Sys2Proof

/-- The data word: A, X, Y, SP, P and every Bus transfer (R7). -/
abbrev Byte := BitVec 8

/-- A CPU address; the width of PC (R7). -/
abbrev Word := BitVec 16

end Sys2Proof
end

