-- ==== Sys2Proof/Config.lean ====
section
/-! DEFINITION. What an implementation fixes (the loaded cartridge, rule R8 of 00_scope.md; the open parameter
ZP_PTR_WRAP) and the free values (the draws of rule R9). A free value is an opaque constant with no body: nothing
can be proved about what it is, so a claim about it holds for every value. -/

namespace Sys2Proof

/-- The configuration inputs of rule R8, fixed for the life of a loaded cartridge: the header fields and the
buffers. A buffer is written sparsely as (index, byte) pairs; an index not listed holds `blankByte` of Machine/Memory.lean. -/
structure Cartridge where
  /-- `mapperNumber` -/
  mapperNumber : Nat
  /-- `prgRomSizeBytes` -/
  prgRomSize : Nat
  /-- `chrDataSizeBytes`; 0 means CHR is RAM -/
  chrDataSize : Nat
  /-- `isVerticalMirroring` -/
  verticalMirroring : Bool
  /-- `prgRomData` -/
  prgRom : List Host.Cell
  /-- `chrRomData` -/
  chrRom : List Host.Cell
  /-- `trainerData`, which the block ignores (R8, D32): nothing reads it -/
  trainer : Option (List Byte)
  deriving DecidableEq, Repr

namespace Config

/-- The open parameter `ZP_PTR_WRAP` (R9, R155, R156, D8). Free value (log 7; DEDUCED, safe). -/
opaque zpPtrWrap : Bool

/-- The draw `initMem` for the 2048 bytes of RAM (R9, R32, D12). Free value (log 4; DEDUCED, safe). -/
opaque initRam : Nat → Byte

/-- The draw `initMem` for the 8 video-register bytes (R9, R32, D12). Free value (log 4; DEDUCED, safe). -/
opaque initPpuRegs : Nat → Byte

/-- The draw `initMem` for the 32 audio/IO-register bytes (R9, R32, D12). Free value (log 4; DEDUCED, safe). -/
opaque initApuRegs : Nat → Byte

/-- The draw `cartRamInit` for PRG-RAM (R9, R76, D27): the number of the draw, then the index. Free value (log 5; DEDUCED, safe). -/
opaque prgRamInit : Nat → Nat → Byte

/-- The draw `cartRamInit` for CHR-RAM (R9, R78, D27): the number of the draw, then the index. Free value (log 5; DEDUCED, safe). -/
opaque chrRamInit : Nat → Nat → Byte

/-- The draw `openBusRead(addr)` (R9, R73, R76, R81): the number of the draw, then the address. Free value (log 6; DEDUCED, safe). -/
opaque openBusRead : Nat → Word → Byte

end Config

end Sys2Proof
end

