-- ==== Sys2Proof/Machine/State.lean ====
section
/-! DEFINITION. The machine's state: every piece of state that 10_state.md gives the block (rules R20 to R34), the
notification trace (R56), the loaded cartridge (R8), and the model's own two draw counters; and the state after
reset. Plain data throughout. -/

namespace Sys2Proof.Machine

/-- The fatal conditions of the block (R400). The constructor names are the codes. -/
inductive Fault where
  /-- R402: the fetched opcode byte has no table entry. Raised by `step` at decode. Safe: the spec's own fault. -/
  | invalidOpcode (opcode : Byte) (address : Word)
  /-- R404: a tabled mnemonic with no handler. Raised by nothing: every tabled mnemonic has its meaning, so the spec
  calls it unreachable; kept because R400 lists it. Safe. -/
  | missingHandler (mnemonic : String)
  /-- R403: the mapper number is not 0, 1 or 4. Raised by `construct`. Safe: the spec's own fault. -/
  | unsupportedMapper (mapperNumber : Nat)
  deriving DecidableEq, Repr

/-- Inputs the model gives no meaning (R406), and the name an arm without a meaning answers with. -/
inductive Refusal where
  /-- Raised by an arm of `exec` that has no meaning yet. Safe: nothing is claimed of it. -/
  | notModelled (mnemonic : String)
  /-- Raised by `construct` for a cartridge that violates a launch premise (R10, R80, R405). Safe. -/
  | cartridgePremise
  /-- Raised by `hostWrite` for data outside 0..255 (R53, D15). Safe. -/
  | hostDataOutOfRange
  /-- Raised by `ppuRead` and `ppuWrite` for an address outside 0x0000–0x1FFF (R75, D30). Safe. -/
  | chrAddressOutOfRange
  deriving DecidableEq, Repr

/-- The nametable-mirroring modes a mapper reports (R33, R74). No rule produces `fourScreen` (D31). -/
inductive Mirroring where
  | horizontal
  | vertical
  | singleScreenLower
  | singleScreenUpper
  | fourScreen
  deriving DecidableEq, Repr

/-- The two controller-port addresses of R56 and R59. -/
inductive ControllerPort where
  /-- 0x4016 -/
  | port4016
  /-- 0x4017 -/
  | port4017
  deriving DecidableEq, Repr

/-- A notification event of the output trace (R56). -/
inductive Event where
  /-- `Notify(BulkTransfer, v)` -/
  | bulkTransfer (v : Byte)
  /-- `Notify(ControllerPort(p), v)` -/
  | controllerPort (p : ControllerPort) (v : Byte)
  deriving DecidableEq, Repr

/-- The MMC1 registers (R34, R95 to R99). -/
structure Mmc1 where
  shiftReg : BitVec 5
  /-- 0..4 -/
  shiftCount : Fin 5
  control : BitVec 5
  chrBank0 : BitVec 5
  chrBank1 : BitVec 5
  prgBank : BitVec 5
  deriving DecidableEq, Repr

/-- MMC1 after construction and after mapper reset (R106). -/
def Mmc1.powerOn : Mmc1 :=
  { shiftReg := 0, shiftCount := 0, control := 0x0C, chrBank0 := 0, chrBank1 := 0, prgBank := 0 }

/-- The MMC3 registers (R34, R111 to R120). -/
structure Mmc3 where
  bankSelect : Byte
  /-- `BR[0..7]` -/
  br : Vector Byte 8
  prgRamEnable : Bool
  prgRamWriteProtect : Bool
  irqLatch : Byte
  irqCounter : Byte
  irqReload : Bool
  irqEnabled : Bool
  irqPending : Bool
  deriving DecidableEq, Repr

/-- MMC3 after construction and after mapper reset (R122). -/
def Mmc3.powerOn : Mmc3 :=
  { bankSelect := 0, br := Vector.replicate 8 0, prgRamEnable := true, prgRamWriteProtect := false, irqLatch := 0,
    irqCounter := 0, irqReload := false, irqEnabled := false, irqPending := false }

/-- The mapper variant with its own registers (R34, R72). -/
inductive Mapper where
  | nrom
  | mmc1 (r : Mmc1)
  | mmc3 (r : Mmc3)
  deriving DecidableEq, Repr

/-- A byte storage as the list of the bytes whose value is known: (index, byte), indices strictly rising. What an
index that is not listed reads as is said once, by `State.byteAt` and `State.chrByte` of Machine/Ops.lean. -/
abbrev Mem := List Host.Cell

/-- The state of the block. -/
structure State where
  /-- accumulator A (R20) -/
  a : Byte
  /-- index register X (R20) -/
  x : Byte
  /-- index register Y (R20) -/
  y : Byte
  /-- stack pointer SP (R23) -/
  sp : Byte
  /-- status register P (R24): C0 Z1 I2 D3 B4 U5 V6 N7 -/
  p : Byte
  /-- program counter PC (R22); between steps, the address of the next opcode -/
  pc : Word
  /-- remaining-cycle counter of `clock()` (R30, R460) -/
  cyclesRemaining : Nat
  /-- the recorded fatal condition (R31, R401) -/
  fault : Option Fault
  /-- the 2048 bytes of RAM (R32, R55) -/
  ram : Mem
  /-- the 8 bytes of the video-register window (R32, R58) -/
  ppuRegs : Mem
  /-- the 32 bytes of the audio/IO-register window (R32, R59) -/
  apuRegs : Mem
  /-- the append-only notification trace (R56), oldest first -/
  trace : List Event
  /-- the loaded cartridge (R8): configuration that no operation writes -/
  cart : Cartridge
  /-- the mapper variant and its registers (R34) -/
  mapper : Mapper
  /-- the mapper's reported mirroring mode (R33, R74) -/
  mirroring : Mirroring
  /-- the 8192 bytes of PRG-RAM, MMC1 and MMC3 only (R33, R76) -/
  prgRam : Mem
  /-- the 8192 bytes of CHR-RAM, when CHR is RAM (R33, R78) -/
  chrRam : Mem
  /-- the model's own: the number of the next `openBusRead` draw (log 13; DESIGN CHOICE, safe) -/
  drawIndex : Nat
  /-- the model's own: the number of the `cartRamInit` draw that PRG-RAM and CHR-RAM hold (log 13; DESIGN CHOICE, safe) -/
  cartRamDraw : Nat
  deriving DecidableEq, Repr

/-- The cartridge of `State.reset`: NROM, 32 KB of PRG-ROM with no byte listed, CHR-RAM, horizontal mirroring.
DESIGN CHOICE (log 2), unsafe: the spec names no cartridge; `construct` takes every other one. -/
def blankCartridge : Cartridge :=
  { mapperNumber := 0, prgRomSize := 32768, chrDataSize := 0, verticalMirroring := false, prgRom := [], chrRom := [],
    trainer := none }

/-- The machine right after construction, which resets the CPU (R450 to R453), with the blank cartridge: A, X, Y zero,
SP 0xFD, P 0x24, PC the word the blank cartridge holds at 0xFFFC (0xFFFF, log 2 and 3), no byte of memory listed. -/
def State.reset : State :=
  { a := 0, x := 0, y := 0, sp := 0xFD, p := 0x24, pc := 0xFFFF, cyclesRemaining := 0, fault := none, ram := [],
    ppuRegs := [], apuRegs := [], trace := [], cart := blankCartridge, mapper := .nrom, mirroring := .horizontal,
    prgRam := [], chrRam := [], drawIndex := 0, cartRamDraw := 0 }

/-- What a meaning or a step answers. -/
abbrev Answer := Host.Outcome State Fault Refusal

end Sys2Proof.Machine
end

