-- ==== Sys2Proof/Machine/Registers.lean ====
section
/-! DEFINITION. The one writer of each field a step writes, and the reads and writes of the single flags of P (rules
R20 to R24 of 10_state.md). -/

namespace Sys2Proof.Machine

/-- Write A (R20). -/
def State.setA (s : State) (v : Byte) : State := { s with a := v }
/-- Write X (R20). -/
def State.setX (s : State) (v : Byte) : State := { s with x := v }
/-- Write Y (R20). -/
def State.setY (s : State) (v : Byte) : State := { s with y := v }
/-- Write SP (R23). -/
def State.setSp (s : State) (v : Byte) : State := { s with sp := v }
/-- Write P (R24). -/
def State.setP (s : State) (v : Byte) : State := { s with p := v }
/-- Write PC (R22); a control transfer. -/
def State.setPc (s : State) (v : Word) : State := { s with pc := v }
/-- Write the RAM array (R32). -/
def State.setRam (s : State) (m : Mem) : State := { s with ram := m }
/-- Write the video-register array (R32). -/
def State.setPpuRegs (s : State) (m : Mem) : State := { s with ppuRegs := m }
/-- Write the audio/IO-register array (R32). -/
def State.setApuRegs (s : State) (m : Mem) : State := { s with apuRegs := m }
/-- Write PRG-RAM (R76). -/
def State.setPrgRam (s : State) (m : Mem) : State := { s with prgRam := m }
/-- Write CHR-RAM (R78). -/
def State.setChrRam (s : State) (m : Mem) : State := { s with chrRam := m }
/-- Write the mapper's registers (R34). -/
def State.setMapper (s : State) (m : Mapper) : State := { s with mapper := m }
/-- Write the reported mirroring mode (R74). -/
def State.setMirroring (s : State) (m : Mirroring) : State := { s with mirroring := m }
/-- Append an event to the output trace (`emit`, R56). -/
def State.emit (s : State) (e : Event) : State := { s with trace := s.trace ++ [e] }
/-- Write the remaining-cycle counter (R30). -/
def State.setCyclesRemaining (s : State) (n : Nat) : State := { s with cyclesRemaining := n }
/-- Write the recorded fault (R31). -/
def State.setFault (s : State) (f : Option Fault) : State := { s with fault := f }
/-- Take the next number for the `openBusRead` draws (log 13; DESIGN CHOICE, safe). -/
def State.nextDraw (s : State) : State := { s with drawIndex := s.drawIndex + 1 }

/-- Advance PC past `n` bytes, masked to 16 bits (R22). -/
def State.advance (s : State) (n : Word) : State := s.setPc (s.pc + n)

/-- The flags of P by name (R24). -/
inductive Flag where
  | carry
  | zero
  | interruptDisable
  | decimal
  | breakCommand
  | unused
  | overflow
  | negative
  deriving DecidableEq, Repr

/-- The flag's bit of P (R24). -/
def flagBit : Flag → Nat
  | .carry => 0
  | .zero => 1
  | .interruptDisable => 2
  | .decimal => 3
  | .breakCommand => 4
  | .unused => 5
  | .overflow => 6
  | .negative => 7

/-- `v` with bit `k` set to `b`, every other bit kept. -/
def withBit (v : Byte) (k : Nat) (b : Bool) : Byte :=
  if b then v ||| (1#8 <<< k) else v &&& ~~~(1#8 <<< k)

/-- Read one flag of P. -/
def State.flag (s : State) (f : Flag) : Bool := s.p.getLsbD (flagBit f)

/-- Write one flag of P; the others keep their values (R26). -/
def State.setFlag (s : State) (f : Flag) (b : Bool) : State := s.setP (withBit s.p (flagBit f) b)

end Sys2Proof.Machine
end

