-- ==== Sys2Proof/Machine/Flags.lean ====
section
/-! DEFINITION. Every flag computation the spec gives: the Zero/Negative update (R29), the carry, overflow and result of
ADC and SBC (R201, R202), compare (R203), BIT (R303), the shifts and rotates (R305 to R308), and the forms P takes when
it is pushed and pulled (R221, R223, R243, R244). -/

namespace Sys2Proof.Machine

/-- The Zero/Negative update (R29): Zero iff the byte is 0, Negative its bit 7. -/
def State.setZN (s : State) (v : Byte) : State :=
  (s.setFlag .zero (v == 0)).setFlag .negative (v.getLsbD 7)

/-- The integer sum of ADC, 0..511 (R201). -/
def adcSum (a m : Byte) (c : Bool) : Nat := a.toNat + m.toNat + c.toNat

/-- The result byte of ADC (R201). -/
def adcResult (a m : Byte) (c : Bool) : Byte := BitVec.ofNat 8 (adcSum a m c)

/-- Carry of ADC (R201). -/
def adcCarry (a m : Byte) (c : Bool) : Bool := decide (255 < adcSum a m c)

/-- Overflow of ADC (R201): the raw operand, not `m + C`. -/
def adcOverflow (a m r : Byte) : Bool := ((a ^^^ r) &&& (m ^^^ r) &&& 0x80) != 0

/-- The integer difference of SBC, -256..255 (R202). -/
def sbcDiff (a m : Byte) (c : Bool) : Int := (a.toNat : Int) - (m.toNat : Int) - (1 - (c.toNat : Int))

/-- The result byte of SBC (R202). -/
def sbcResult (a m : Byte) (c : Bool) : Byte := BitVec.ofInt 8 (sbcDiff a m c)

/-- Carry of SBC: no borrow (R202). -/
def sbcCarry (a m : Byte) (c : Bool) : Bool := decide (0 ≤ sbcDiff a m c)

/-- Overflow of SBC (R202): the operand complemented. -/
def sbcOverflow (a m r : Byte) : Bool := ((a ^^^ r) &&& ((m ^^^ 0xFF) ^^^ r) &&& 0x80) != 0

/-- `compare(reg, m)` (R203): C, Z, N of the difference; no register, not V. -/
def State.compare (s : State) (reg m : Byte) : State :=
  (s.setFlag .carry (decide (m.toNat ≤ reg.toNat))).setZN (reg - m)

/-- The flags of BIT (R303): Z from `A & m`, N and V from m itself. -/
def State.bitTest (s : State) (m : Byte) : State :=
  ((s.setFlag .zero ((s.a &&& m) == 0)).setFlag .negative (m.getLsbD 7)).setFlag .overflow (m.getLsbD 6)

/-- A shift or rotate (R305 to R308): the byte it leaves and the bit it moves into C. -/
structure Shifted where
  result : Byte
  carryOut : Bool
  deriving DecidableEq, Repr

/-- ASL (R305). -/
def shiftLeft (v : Byte) (_ : Bool) : Shifted := { result := v <<< 1, carryOut := v.getLsbD 7 }

/-- LSR (R306). -/
def shiftRight (v : Byte) (_ : Bool) : Shifted := { result := v >>> 1, carryOut := v.getLsbD 0 }

/-- ROL (R307): the old carry enters bit 0. -/
def rotateLeft (v : Byte) (c : Bool) : Shifted :=
  { result := (v <<< 1) ||| (if c then 0x01 else 0x00), carryOut := v.getLsbD 7 }

/-- ROR (R308): the old carry enters bit 7. -/
def rotateRight (v : Byte) (c : Bool) : Shifted :=
  { result := (v >>> 1) ||| (if c then 0x80 else 0x00), carryOut := v.getLsbD 0 }

/-- The copy of P that PHP and BRK push: B and U forced set (R221, R243). -/
def pushedStatus (p : Byte) : Byte := p ||| 0x30

/-- What PLP and RTI load into P from the pulled byte: B stays 0, U is 1 (R223, R244). -/
def pulledStatus (v : Byte) : Byte := (v &&& 0xCF) ||| 0x20

end Sys2Proof.Machine
end

