-- ==== Sys2Proof/Machine/Memory.lean ====
section
/-! DEFINITION. The byte storages as data: lookup, write, and the canonical form (log 9; DESIGN CHOICE, safe). -/

namespace Sys2Proof.Machine

/-- What a ROM byte that the cartridge does not list holds. DESIGN CHOICE (log 3), unsafe: the spec's own programs
fill unlisted PRG bytes with 0xFF (95_test_vectors.md Part 3). -/
def blankByte : Byte := 0xFF

/-- The byte listed at index `k`, if one is. -/
def Mem.lookup (k : Nat) : Mem → Option Byte
  | [] => none
  | (j, v) :: m => if j = k then some v else Mem.lookup k m

/-- Write the byte at index `k`, keeping the indices strictly rising. -/
def Mem.put (k : Nat) (v : Byte) : Mem → Mem
  | [] => [(k, v)]
  | (j, w) :: m =>
    if k < j then (k, v) :: (j, w) :: m
    else if k = j then (k, v) :: m
    else (j, w) :: Mem.put k v m

/-- Remove the entry at index `k`. -/
def Mem.erase (k : Nat) : Mem → Mem
  | [] => []
  | (j, w) :: m => if j = k then m else (j, w) :: Mem.erase k m

/-- Place a byte into a ROM buffer: an entry equal to what an unlisted ROM byte reads as is removed. Used by the
loader alone (`State.withFetchWord`); no step writes ROM. -/
def Mem.romPut (k : Nat) (v : Byte) (m : Mem) : Mem :=
  if v = blankByte then Mem.erase k m else Mem.put k v m

/-- The indices are strictly rising, all above `lo` where one is given. -/
def Mem.risingFrom : Option Nat → Mem → Bool
  | _, [] => true
  | lo, (j, _) :: m => (match lo with | none => true | some l => decide (l < j)) && Mem.risingFrom (some j) m

/-- The canonical form of a storage of `size` bytes: indices strictly rising and inside the storage. -/
def Mem.wf (size : Nat) (m : Mem) : Bool :=
  Mem.risingFrom none m && m.all (fun c => decide (c.1 < size))

/-- The canonical form of a ROM buffer: also no entry equal to what an unlisted ROM byte reads as. -/
def Mem.romWf (size : Nat) (m : Mem) : Bool :=
  Mem.wf size m && m.all (fun c => decide (c.2 ≠ blankByte))

/-- Every storage of the state is in its canonical form. -/
def Memory.wf (s : State) : Bool :=
  Mem.wf 0x800 s.ram && Mem.wf 8 s.ppuRegs && Mem.wf 32 s.apuRegs && Mem.wf 0x2000 s.prgRam &&
    Mem.wf 0x2000 s.chrRam && Mem.romWf s.cart.prgRomSize s.cart.prgRom && Mem.romWf s.cart.chrDataSize s.cart.chrRom

end Sys2Proof.Machine
end

