-- ==== Sys2Proof/Machine/Mapper.lean ====
section
/-! DEFINITION. The three mapper engines (20_memory.md sections 6 to 9): PRG and CHR translation, the MMC1 serial
protocol, the MMC3 register space and scanline counter, PRG-RAM enables, mirroring and mapper reset. -/

namespace Sys2Proof.Machine

/-! ## Derived sizes (R10) -/

/-- `prgBanks16` (R10). -/
def prgBanks16 (c : Cartridge) : Nat := c.prgRomSize / 16384

/-- `prgBanks8` (R10). -/
def prgBanks8 (c : Cartridge) : Nat := c.prgRomSize / 8192

/-- `chrIsRam` (R33, R78). -/
def chrIsRam (c : Cartridge) : Bool := c.chrDataSize == 0

/-- `chrSize` (R10): 8192 bytes of CHR-RAM when there is no CHR data. -/
def chrSize (c : Cartridge) : Nat := if c.chrDataSize = 0 then 8192 else c.chrDataSize

/-- `chrBanks8` (R10). -/
def chrBanks8 (c : Cartridge) : Nat := chrSize c / 8192

/-- `chrBanks4` (R10). -/
def chrBanks4 (c : Cartridge) : Nat := chrSize c / 4096

/-- `chrBanks1` (R10). -/
def chrBanks1 (c : Cartridge) : Nat := chrSize c / 1024

/-- Bits 14:13 of a CPU address: the MMC1 latch target (R100) and the MMC3 sub-window and slot (R110, R113). -/
def subWindow (a : Word) : Nat := (a.toNat / 0x2000) % 4

/-! ## NROM -/

/-- NROM PRG index for an address of 0x8000–0xFFFF (R81). -/
def nromPrgIndex (c : Cartridge) (a : Word) : Nat :=
  if prgBanks16 c = 1 then a.toNat % 0x4000 else a.toNat - 0x8000

/-! ## MMC1 -/

/-- The shift register after a qualifying write: logical right shift, the new bit at bit 4 (R95). -/
def mmc1Shift (r : Mmc1) (v : Byte) : BitVec 5 :=
  (r.shiftReg >>> 1) ||| (if v.getLsbD 0 then 0x10 else 0x00)

/-- `latch(t, value)` (R100). -/
def mmc1Latch (t : Nat) (value : BitVec 5) (r : Mmc1) : Mmc1 :=
  match t with
  | 0 => { r with control := value }
  | 1 => { r with chrBank0 := value }
  | 2 => { r with chrBank1 := value }
  | _ => { r with prgBank := value }

/-- MMC1 registers after a write to 0x8000–0xFFFF: the reset write (R96), or one step of the serial load (R95). -/
def mmc1Write (a : Word) (v : Byte) (r : Mmc1) : Mmc1 :=
  if v.getLsbD 7 then
    { r with shiftReg := 0, shiftCount := 0, control := r.control ||| 0x0C }
  else if r.shiftCount = 4 then
    { mmc1Latch (subWindow a) (mmc1Shift r v) r with shiftReg := 0, shiftCount := 0 }
  else
    { r with shiftReg := mmc1Shift r v, shiftCount := r.shiftCount + 1 }

/-- The mirroring field of the MMC1 control register, bits 1:0 (R97). -/
def mmc1MirroringMode (control : BitVec 5) : Mirroring :=
  match control.toNat % 4 with
  | 0 => .singleScreenLower
  | 1 => .singleScreenUpper
  | 2 => .vertical
  | _ => .horizontal

/-- The mirroring mode after an MMC1 register write: only a latch into control changes it (R96, R101). -/
def mmc1Mirroring (a : Word) (v : Byte) (r : Mmc1) (m : Mirroring) : Mirroring :=
  if v.getLsbD 7 = false ∧ r.shiftCount = 4 ∧ subWindow a = 0 then mmc1MirroringMode (mmc1Shift r v) else m

/-- The 16 KB bank number before reduction (R102): control bits 3:2 are the PRG mode, `prgBank[3:0]` the bank. -/
def mmc1PrgBank (n : Nat) (r : Mmc1) (a : Word) : Nat :=
  let b := r.prgBank.toNat % 16
  let low := decide (a.toNat < 0xC000)
  match (r.control.toNat / 4) % 4 with
  | 0 => if low then b - b % 2 else b - b % 2 + 1
  | 1 => if low then b - b % 2 else b - b % 2 + 1
  | 2 => if low then 0 else b
  | _ => if low then b else n - 1

/-- MMC1 PRG index for an address of 0x8000–0xFFFF (R102, R77). -/
def mmc1PrgIndex (c : Cartridge) (r : Mmc1) (a : Word) : Nat :=
  (mmc1PrgBank (prgBanks16 c) r a % (prgBanks16 c)) * 0x4000 + a.toNat % 0x4000

/-- MMC1 PRG-RAM enable: the inverse of bit 4 of prgBank (R99, R104). -/
def mmc1PrgRamEnabled (r : Mmc1) : Bool := !r.prgBank.getLsbD 4

/-- The 4 KB CHR bank number before reduction (R103): control bit 4 is the CHR mode. -/
def mmc1ChrBank (r : Mmc1) (a : Nat) : Nat :=
  if r.control.getLsbD 4 then
    if a < 0x1000 then r.chrBank0.toNat else r.chrBank1.toNat
  else r.chrBank0.toNat - r.chrBank0.toNat % 2 + (a / 0x1000) % 2

/-! ## MMC3 -/

/-- MMC3 registers after a write to 0x8000–0xFFFF (R110 to R118). The even write of sub-window 1 is the mirroring
register (`mmc3Mirroring`). -/
def mmc3Write (a : Word) (v : Byte) (r : Mmc3) : Mmc3 :=
  match subWindow a, a.getLsbD 0 with
  | 0, false => { r with bankSelect := v }
  | 0, true => { r with br := r.br.set (r.bankSelect.toNat % 8) v (Nat.mod_lt _ (by decide)) }
  | 1, false => r
  | 1, true => { r with prgRamEnable := v.getLsbD 7, prgRamWriteProtect := v.getLsbD 6 }
  | 2, false => { r with irqLatch := v }
  | 2, true => { r with irqReload := true, irqCounter := 0 }
  | _, false => { r with irqEnabled := false, irqPending := false }
  | _, true => { r with irqEnabled := true }

/-- The mirroring mode after an MMC3 register write (R116). -/
def mmc3Mirroring (a : Word) (v : Byte) (m : Mirroring) : Mirroring :=
  if subWindow a = 1 ∧ a.getLsbD 0 = false then
    if v.getLsbD 0 then .horizontal else .vertical
  else m

/-- The 8 KB PRG bank number before reduction (R113): bankSelect bit 6 is the PRG mode. -/
def mmc3PrgBank (n : Nat) (r : Mmc3) (a : Word) : Nat :=
  match subWindow a, r.bankSelect.getLsbD 6 with
  | 0, false => r.br[6].toNat
  | 0, true => n - 2
  | 1, _ => r.br[7].toNat
  | 2, false => n - 2
  | 2, true => r.br[6].toNat
  | _, _ => n - 1

/-- MMC3 PRG index for an address of 0x8000–0xFFFF (R113, R77). -/
def mmc3PrgIndex (c : Cartridge) (r : Mmc3) (a : Word) : Nat :=
  (mmc3PrgBank (prgBanks8 c) r a % (prgBanks8 c)) * 0x2000 + a.toNat % 0x2000

/-- The 1 KB CHR slot: address bits 12:10, the 4 KB halves swapped when bankSelect bit 7 is set (R114). -/
def mmc3ChrSlot (r : Mmc3) (a : Nat) : Nat :=
  let k := (a / 0x400) % 8
  if r.bankSelect.getLsbD 7 then (k + 4) % 8 else k

/-- The 1 KB CHR bank number before reduction (R114). -/
def mmc3ChrBank (r : Mmc3) (a : Nat) : Nat :=
  match mmc3ChrSlot r a with
  | 0 => (r.br[0] &&& 0xFE).toNat
  | 1 => (r.br[0] ||| 0x01).toNat
  | 2 => (r.br[1] &&& 0xFE).toNat
  | 3 => (r.br[1] ||| 0x01).toNat
  | 4 => r.br[2].toNat
  | 5 => r.br[3].toNat
  | 6 => r.br[4].toNat
  | _ => r.br[5].toNat

/-- The scanline counter after one `onScanline()` (R119). -/
def mmc3ScanlineCounter (r : Mmc3) : Byte :=
  if r.irqCounter = 0 ∨ r.irqReload = true then r.irqLatch else r.irqCounter - 1

/-- MMC3 registers after `onScanline()` (R119); it returns their `irqPending`. -/
def mmc3Scanline (r : Mmc3) : Mmc3 :=
  { r with
    irqCounter := mmc3ScanlineCounter r
    irqReload := false
    irqPending := r.irqPending || (mmc3ScanlineCounter r == 0 && r.irqEnabled) }

/-! ## The mapper contract (R71) -/

/-- The PRG-ROM index an address of 0x8000–0xFFFF reaches (R81, R102, R113): a pure function of the current registers
(R105, R123). -/
def prgIndex (c : Cartridge) (m : Mapper) (a : Word) : Nat :=
  match m with
  | .nrom => nromPrgIndex c a
  | .mmc1 r => mmc1PrgIndex c r a
  | .mmc3 r => mmc3PrgIndex c r a

/-- The CHR index an address of 0x0000–0x1FFF reaches (R83, R103, R114, R77). -/
def chrIndex (c : Cartridge) (m : Mapper) (a : Nat) : Nat :=
  match m with
  | .nrom => a % 0x2000
  | .mmc1 r => (mmc1ChrBank r a % (chrBanks4 c)) * 0x1000 + a % 0x1000
  | .mmc3 r => (mmc3ChrBank r a % (chrBanks1 c)) * 0x400 + a % 0x400

/-- Whether a read of 0x6000–0x7FFF reaches PRG-RAM (R76, R80, R104, R121). -/
def prgRamReadable : Mapper → Bool
  | .nrom => false
  | .mmc1 r => mmc1PrgRamEnabled r
  | .mmc3 r => r.prgRamEnable

/-- Whether a write of 0x6000–0x7FFF reaches PRG-RAM (R82, R107, R121). -/
def prgRamWritable : Mapper → Bool
  | .nrom => false
  | .mmc1 r => mmc1PrgRamEnabled r
  | .mmc3 r => r.prgRamEnable && !r.prgRamWriteProtect

/-- A write to 0x8000–0xFFFF: nothing for NROM (R82), the serial protocol for MMC1 (R95, R96, R101), the register space
for MMC3 (R110). PRG-ROM is never written. -/
def State.writeMapper (s : State) (a : Word) (v : Byte) : State :=
  match s.mapper with
  | .nrom => s
  | .mmc1 r => (s.setMapper (.mmc1 (mmc1Write a v r))).setMirroring (mmc1Mirroring a v r s.mirroring)
  | .mmc3 r => (s.setMapper (.mmc3 (mmc3Write a v r))).setMirroring (mmc3Mirroring a v s.mirroring)

/-- The mapper the factory builds for a mapper number, in its reset state; none for an unsupported number (R72, R80, R106,
R122). -/
def mapperFor : Nat → Option Mapper
  | 0 => some .nrom
  | 1 => some (.mmc1 Mmc1.powerOn)
  | 4 => some (.mmc3 Mmc3.powerOn)
  | _ => none

/-- The mapper's registers after its own `reset()`: those of construction (R84, R106, R122). -/
def mapperPowerOn : Mapper → Mapper
  | .nrom => .nrom
  | .mmc1 _ => .mmc1 Mmc1.powerOn
  | .mmc3 _ => .mmc3 Mmc3.powerOn

/-- The mirroring mode at construction and after mapper reset (R74). -/
def headerMirroring (c : Cartridge) : Mirroring := if c.verticalMirroring then .vertical else .horizontal

end Sys2Proof.Machine
end

