-- ==== Sys2Proof/Machine/Ops.lean ====
section
/-! DEFINITION. The Bus (rules R50 to R59, R64 to R73 of 20_memory.md), the stack primitives (R60 to R63), taking the BRK
trap and returning from it (R420, R421), CPU reset (R451, R452), and placing an instruction's bytes for
`State.withFetchWord`. -/

namespace Sys2Proof.Machine

/-- The window a CPU address selects (R54), the cartridge window split as the mapper contract splits it (R73). -/
inductive Window where
  /-- 0x0000–0x1FFF -/
  | ram
  /-- 0x2000–0x3FFF -/
  | video
  /-- 0x4000–0x401F -/
  | audio
  /-- 0x4020–0x5FFF: no storage and no register in any variant -/
  | expansion
  /-- 0x6000–0x7FFF -/
  | prgRam
  /-- 0x8000–0xFFFF -/
  | prg
  deriving DecidableEq, Repr

/-- Address decode (R54, R73). -/
def window (a : Word) : Window :=
  if a.toNat < 0x2000 then .ram
  else if a.toNat < 0x4000 then .video
  else if a.toNat < 0x4020 then .audio
  else if a.toNat < 0x6000 then .expansion
  else if a.toNat < 0x8000 then .prgRam
  else .prg

/-- A physical byte of the block that the CPU can reach: what is left of an address after mirroring and bank
translation (R130). -/
inductive Loc where
  | ram (i : Nat)
  | ppuRegs (i : Nat)
  | apuRegs (i : Nat)
  | prgRam (i : Nat)
  | prgRom (i : Nat)
  deriving DecidableEq, Repr

/-- RAM index: the low 11 bits (R55). -/
def ramIndex (a : Word) : Nat := a.toNat % 0x800

/-- Video-register index (R58). -/
def videoIndex (a : Word) : Nat := (a.toNat - 0x2000) % 8

/-- The physical byte a read of `a` reaches, none where no storage answers (R54 to R59, R73, R76, R81, R107, R121). -/
def State.locate (s : State) (a : Word) : Option Loc :=
  match window a with
  | .ram => some (.ram (ramIndex a))
  | .video => some (.ppuRegs (videoIndex a))
  | .audio => some (.apuRegs (a.toNat - 0x4000))
  | .expansion => none
  | .prgRam => if prgRamReadable s.mapper then some (.prgRam (a.toNat - 0x6000)) else none
  | .prg => some (.prgRom (prgIndex s.cart s.mapper a))

/-- The byte at a physical location. A byte of RAM, of a register window or of PRG-RAM that nothing has written is its
draw (R32, R76; log 4, log 5; DEDUCED, safe); a ROM byte the cartridge does not list is blank (log 3; DESIGN CHOICE, unsafe). -/
def State.byteAt (s : State) : Loc → Byte
  | .ram i => (Mem.lookup i s.ram).getD (Config.initRam i)
  | .ppuRegs i => (Mem.lookup i s.ppuRegs).getD (Config.initPpuRegs i)
  | .apuRegs i => (Mem.lookup i s.apuRegs).getD (Config.initApuRegs i)
  | .prgRam i => (Mem.lookup i s.prgRam).getD (Config.prgRamInit s.cartRamDraw i)
  | .prgRom i => (Mem.lookup i s.cart.prgRom).getD blankByte

/-- `MemRead(a, 1)` (R52). It changes no state; where no storage answers the byte is the draw `openBusRead` (log 6; DEDUCED, safe). -/
def State.read (s : State) (a : Word) : Byte :=
  match s.locate a with
  | some l => s.byteAt l
  | none => Config.openBusRead s.drawIndex a

/-- The notification a write into the audio/IO window emits, if any (R59). -/
def State.notify (s : State) (a : Word) (v : Byte) : State :=
  if a = 0x4014 then s.emit (.bulkTransfer v)
  else if a = 0x4016 then s.emit (.controllerPort .port4016 v)
  else if a = 0x4017 then s.emit (.controllerPort .port4017 v)
  else s

/-- `MemWrite(a, 1, v)` (R53 to R59, R64, R73, R82, R107, R110, R121). -/
def State.write (s : State) (a : Word) (v : Byte) : State :=
  match window a with
  | .ram => s.setRam (Mem.put (ramIndex a) v s.ram)
  | .video => s.setPpuRegs (Mem.put (videoIndex a) v s.ppuRegs)
  | .audio => (s.setApuRegs (Mem.put (a.toNat - 0x4000) v s.apuRegs)).notify a v
  | .expansion => s
  | .prgRam => if prgRamWritable s.mapper then s.setPrgRam (Mem.put (a.toNat - 0x6000) v s.prgRam) else s
  | .prg => s.writeMapper a v

/-- The 16-bit value with the given low and high bytes (R57, R65). -/
def wordOf (lo hi : Byte) : Word := hi ++ lo

/-- Bits 7:0 of a 16-bit value. -/
def lowByte (w : Word) : Byte := w.setWidth 8

/-- Bits 15:8 of a 16-bit value. -/
def highByte (w : Word) : Byte := (w >>> 8).setWidth 8

/-- `zext_16` (00_scope.md section 5). -/
def zext16 (b : Byte) : Word := b.setWidth 16

/-- `sext_16` (00_scope.md section 5). -/
def sext16 (b : Byte) : Word := b.signExtend 16

/-- `read16(a)`: little-endian, the second address wrapping at 16 bits (R57). -/
def State.read16 (s : State) (a : Word) : Word := wordOf (s.read a) (s.read (a + 1))

/-- Whether a store at `ea` may change what a read of `a` gives: `a` names the same byte of RAM, of a register window or
of PRG-RAM; a write to 0x8000–0xFFFF stores no byte but may remap 0x6000–0xFFFF (R55, R58, R59, R73, R105, R123). -/
def storeReaches (ea a : Word) : Bool :=
  match window ea with
  | .ram => decide (window a = .ram ∧ ramIndex a = ramIndex ea)
  | .video => decide (window a = .video ∧ videoIndex a = videoIndex ea)
  | .audio => decide (a = ea)
  | .expansion => false
  | .prgRam => decide (a = ea)
  | .prg => decide (0x6000 ≤ a.toNat)

/-- The address of the stack byte SP designates (R23). -/
def stackAddr (sp : Byte) : Word := 0x0100 + zext16 sp

/-- `push(v)`: write, then decrement SP modulo 256 (R60). -/
def State.push (s : State) (v : Byte) : State := (s.write (stackAddr s.sp) v).setSp (s.sp - 1)

/-- The byte `pop()` returns (R61). -/
def State.popValue (s : State) : Byte := s.read (stackAddr (s.sp + 1))

/-- The state after `pop()` (R61). -/
def State.popped (s : State) : State := s.setSp (s.sp + 1)

/-- `push16(w)`: high byte, then low byte (R62). -/
def State.push16 (s : State) (w : Word) : State := (s.push (highByte w)).push (lowByte w)

/-- The word `pop16()` returns: low byte first (R63). -/
def State.pop16Value (s : State) : Word := wordOf s.popValue s.popped.popValue

/-- The state after `pop16()` (R63). -/
def State.popped16 (s : State) : State := s.popped.popped

/-- The reset vector (R68). -/
def resetVector : Word := 0xFFFC

/-- The interrupt (BRK) vector (R68). -/
def brkVector : Word := 0xFFFE

/-- Taking the block's one trap (R243, R420), from a state whose PC is the return address: push PC, push P with B and U
set, set I, load PC from the vector through the mapper. -/
def State.takeTrap (s : State) : State :=
  let saved := (s.push16 s.pc).push (pushedStatus s.p)
  let masked := saved.setFlag .interruptDisable true
  masked.setPc (masked.read16 brkVector)

/-- Returning from the trap (R244, R421): pull P without B and U, then pull PC, with no increment. -/
def State.returnFromTrap (s : State) : State :=
  let restored := s.popped.setP (pulledStatus s.popValue)
  restored.popped16.setPc restored.pop16Value

/-- CPU `reset()` (R451, R452): registers, PC from the reset vector through the current mapping, no cycle pending;
nothing else (R453), the recorded fault included. -/
def State.cpuReset (s : State) : State :=
  let cleared := ((((s.setA 0).setX 0).setY 0).setSp 0xFD).setP 0x24
  (cleared.setPc (s.read16 resetVector)).setCyclesRemaining 0

/-- The loader's placing of one byte where a read of `a` reaches it, ROM included; nothing where no storage answers. Not
an operation of the block: `State.withFetchWord` alone uses it (log 12; DESIGN CHOICE, safe). -/
def State.placeByte (s : State) (a : Word) (v : Byte) : State :=
  match s.locate a with
  | some (.ram i) => s.setRam (Mem.put i v s.ram)
  | some (.ppuRegs i) => s.setPpuRegs (Mem.put i v s.ppuRegs)
  | some (.apuRegs i) => s.setApuRegs (Mem.put i v s.apuRegs)
  | some (.prgRam i) => s.setPrgRam (Mem.put i v s.prgRam)
  | some (.prgRom i) => { s with cart := { s.cart with prgRom := Mem.romPut i v s.cart.prgRom } }
  | none => s

/-- Place three bytes at PC, PC + 1 and PC + 2; PC first moves to 0x0200 (RAM) if one of the three addresses has no
storage (log 12; DESIGN CHOICE, safe). -/
def State.placeInstr (s : State) (b0 b1 b2 : Byte) : State :=
  let storable := (s.locate s.pc).isSome && (s.locate (s.pc + 1)).isSome && (s.locate (s.pc + 2)).isSome
  let t := if storable then s else s.setPc 0x0200
  ((t.placeByte t.pc b0).placeByte (t.pc + 1) b1).placeByte (t.pc + 2) b2

end Sys2Proof.Machine
end

