-- ==== Sys2Proof/Machine/Operands.lean ====
section
/-! DEFINITION. The addressing-mode resolver (rules R146 to R157 of 30_encoding.md) and operand access (R158). Each
`ea…` takes the operand bytes of the instruction and the state before its handler runs; Immediate's operand is the byte
itself (log 10; DEDUCED, safe). -/

namespace Sys2Proof.Machine

/-- ZeroPage (R147). -/
def eaZp (b : Byte) (_ : State) : Word := zext16 b

/-- ZeroPageX: wraps within the zero page (R148). -/
def eaZpX (b : Byte) (s : State) : Word := zext16 (b + s.x)

/-- ZeroPageY: wraps within the zero page (R149). -/
def eaZpY (b : Byte) (s : State) : Word := zext16 (b + s.y)

/-- Absolute (R150). -/
def eaAbs (w : Word) (_ : State) : Word := w

/-- AbsoluteX: masked to 16 bits (R151). -/
def eaAbsX (w : Word) (s : State) : Word := w + zext16 s.x

/-- AbsoluteY: masked to 16 bits (R152). -/
def eaAbsY (w : Word) (s : State) : Word := w + zext16 s.y

/-- Relative: `next` is PC after the offset byte (R153). -/
def eaRel (off : Byte) (next : Word) : Word := next + sext16 off

/-- The address of the high byte of an indirect pointer: only the low byte is incremented (R154). -/
def indirectHighAddr (ptr : Word) : Word := (ptr &&& 0xFF00) ||| ((ptr + 1) &&& 0x00FF)

/-- Indirect, with the page-wrap bug (R154). -/
def eaInd (ptr : Word) (s : State) : Word := wordOf (s.read ptr) (s.read (indirectHighAddr ptr))

/-- The address of the high byte of a zero-page pointer: `p + 1`, and for p = 0xFF the open parameter decides between
0x0000 and 0x0100 (R155, R156, D8). -/
def zpPointerHighAddr (wrap : Bool) (p : Byte) : Word :=
  if p = 0xFF then (if wrap then 0x0000 else 0x0100) else zext16 (p + 1)

/-- The 16-bit value of the zero-page pointer at `p`, for either setting of the open parameter (R155, R156). -/
def State.zpPointer (s : State) (wrap : Bool) (p : Byte) : Word :=
  wordOf (s.read (zext16 p)) (s.read (zpPointerHighAddr wrap p))

/-- IndexedIndirect (R155). -/
def eaIndX (b : Byte) (s : State) : Word := s.zpPointer Config.zpPtrWrap (b + s.x)

/-- IndirectIndexed (R156). -/
def eaIndY (b : Byte) (s : State) : Word := s.zpPointer Config.zpPtrWrap b + zext16 s.y

/-- Where a read-modify-write instruction finds and leaves its operand (R158, R304). -/
inductive Place where
  | accumulator
  | mem (ea : Word)
  deriving DecidableEq, Repr

/-- `load()` (R158). -/
def State.load (s : State) : Place → Byte
  | .accumulator => s.a
  | .mem ea => s.read ea

/-- `store(v)` (R158). -/
def State.store (s : State) (v : Byte) : Place → State
  | .accumulator => s.setA v
  | .mem ea => s.write ea v

/-- A shift or rotate of the operand at a place (R304 to R308): one load, C, one store, Z and N. -/
def State.shiftAt (s : State) (f : Byte → Bool → Shifted) (p : Place) : State :=
  let r := f (s.load p) (s.flag .carry)
  ((s.setFlag .carry r.carryOut).store r.result p).setZN r.result

/-! ## The shapes of a meaning: PC moves past the instruction (R22, R142), then the handler runs (R143) -/

/-- Implied: the handler on the state whose PC is past the one byte. -/
def onImplied (h : State → State) (s : State) : Answer := .next (h (s.advance 1))

/-- Immediate: the handler on the operand byte (R146). -/
def onImmediate (b : Byte) (h : State → Byte → State) (s : State) : Answer := .next (h (s.advance 2) b)

/-- A memory mode whose handler calls `load()`: the handler on the byte at the effective address. `n` is the
instruction's length. -/
def onByteAt (n : Word) (ea : State → Word) (h : State → Byte → State) (s : State) : Answer :=
  .next (h (s.advance n) ((s.advance n).read (ea (s.advance n))))

/-- A memory mode whose handler stores at the effective address, or transfers control to it. -/
def onAddress (n : Word) (ea : State → Word) (h : State → Word → State) (s : State) : Answer :=
  .next (h (s.advance n) (ea (s.advance n)))

/-- The accumulator form of a shift or rotate (R157, R304). -/
def onAccumulator (f : Byte → Bool → Shifted) (s : State) : Answer := .next ((s.advance 1).shiftAt f .accumulator)

/-- The memory form of a shift or rotate (R304). -/
def onShifted (n : Word) (ea : State → Word) (f : Byte → Bool → Shifted) (s : State) : Answer :=
  onAddress n ea (fun t a => t.shiftAt f (.mem a)) s

/-- `branch(cond)`: the target is resolved whether or not the branch is taken (R245, R153). -/
def onBranch (off : Byte) (cond : State → Bool) (s : State) : Answer :=
  let t := s.advance 2
  .next (if cond t then t.setPc (eaRel off t.pc) else t)

end Sys2Proof.Machine
end

