-- ==== Sys2Proof/Machine/Arithmetic.lean ====
section
/-! DEFINITION. The meanings of the family: Arithmetic (41_arithmetic.md). A meaning receives the state whose PC is the opcode's address and
answers the state after the instruction; no instruction of this family faults. -/

namespace Sys2Proof.Machine

/-- ADC's effect on A, C, V, Z, N (R201). -/
def State.adc (s : State) (m : Byte) : State :=
  let c := s.flag .carry
  let r := adcResult s.a m c
  (((s.setFlag .carry (adcCarry s.a m c)).setFlag .overflow (adcOverflow s.a m r)).setZN r).setA r

/-- SBC's effect on A, C, V, Z, N (R202). -/
def State.sbc (s : State) (m : Byte) : State :=
  let c := s.flag .carry
  let r := sbcResult s.a m c
  (((s.setFlag .carry (sbcCarry s.a m c)).setFlag .overflow (sbcOverflow s.a m r)).setZN r).setA r

/-- CMP's effect (R204). -/
def State.cmp (s : State) (m : Byte) : State := s.compare s.a m

/-- CPX's effect (R205). -/
def State.cpx (s : State) (m : Byte) : State := s.compare s.x m

/-- CPY's effect (R206). -/
def State.cpy (s : State) (m : Byte) : State := s.compare s.y m

/-- INC's effect: one read, one write, Z and N (R207). -/
def State.incAt (s : State) (ea : Word) : State := (s.write ea (s.read ea + 1)).setZN (s.read ea + 1)

/-- DEC's effect: one read, one write, Z and N (R208). -/
def State.decAt (s : State) (ea : Word) : State := (s.write ea (s.read ea - 1)).setZN (s.read ea - 1)

/-- INX's effect (R209). -/
def State.inx (s : State) : State := (s.setX (s.x + 1)).setZN (s.x + 1)

/-- INY's effect (R210). -/
def State.iny (s : State) : State := (s.setY (s.y + 1)).setZN (s.y + 1)

/-- DEX's effect (R211). -/
def State.dex (s : State) : State := (s.setX (s.x - 1)).setZN (s.x - 1)

/-- DEY's effect (R212). -/
def State.dey (s : State) : State := (s.setY (s.y - 1)).setZN (s.y - 1)

/-- ADC (zp,X) (R201, R155). -/
def execAdcIndX (b : Byte) (s : State) : Answer := onByteAt 2 (eaIndX b) State.adc s

/-- ADC zp (R201, R147). -/
def execAdcZp (b : Byte) (s : State) : Answer := onByteAt 2 (eaZp b) State.adc s

/-- ADC # (R201, R146). -/
def execAdcImm (b : Byte) (s : State) : Answer := onImmediate b State.adc s

/-- ADC abs (R201, R150). -/
def execAdcAbs (w : Word) (s : State) : Answer := onByteAt 3 (eaAbs w) State.adc s

/-- ADC (zp),Y (R201, R156). -/
def execAdcIndY (b : Byte) (s : State) : Answer := onByteAt 2 (eaIndY b) State.adc s

/-- ADC zp,X (R201, R148). -/
def execAdcZpX (b : Byte) (s : State) : Answer := onByteAt 2 (eaZpX b) State.adc s

/-- ADC abs,Y (R201, R152). -/
def execAdcAbsY (w : Word) (s : State) : Answer := onByteAt 3 (eaAbsY w) State.adc s

/-- ADC abs,X (R201, R151). -/
def execAdcAbsX (w : Word) (s : State) : Answer := onByteAt 3 (eaAbsX w) State.adc s

/-- SBC (zp,X) (R202, R155). -/
def execSbcIndX (b : Byte) (s : State) : Answer := onByteAt 2 (eaIndX b) State.sbc s

/-- SBC zp (R202, R147). -/
def execSbcZp (b : Byte) (s : State) : Answer := onByteAt 2 (eaZp b) State.sbc s

/-- SBC # (R202, R146). -/
def execSbcImm (b : Byte) (s : State) : Answer := onImmediate b State.sbc s

/-- SBC abs (R202, R150). -/
def execSbcAbs (w : Word) (s : State) : Answer := onByteAt 3 (eaAbs w) State.sbc s

/-- SBC (zp),Y (R202, R156). -/
def execSbcIndY (b : Byte) (s : State) : Answer := onByteAt 2 (eaIndY b) State.sbc s

/-- SBC zp,X (R202, R148). -/
def execSbcZpX (b : Byte) (s : State) : Answer := onByteAt 2 (eaZpX b) State.sbc s

/-- SBC abs,Y (R202, R152). -/
def execSbcAbsY (w : Word) (s : State) : Answer := onByteAt 3 (eaAbsY w) State.sbc s

/-- SBC abs,X (R202, R151). -/
def execSbcAbsX (w : Word) (s : State) : Answer := onByteAt 3 (eaAbsX w) State.sbc s

/-- CMP (zp,X) (R204, R155). -/
def execCmpIndX (b : Byte) (s : State) : Answer := onByteAt 2 (eaIndX b) State.cmp s

/-- CMP zp (R204, R147). -/
def execCmpZp (b : Byte) (s : State) : Answer := onByteAt 2 (eaZp b) State.cmp s

/-- CMP # (R204, R146). -/
def execCmpImm (b : Byte) (s : State) : Answer := onImmediate b State.cmp s

/-- CMP abs (R204, R150). -/
def execCmpAbs (w : Word) (s : State) : Answer := onByteAt 3 (eaAbs w) State.cmp s

/-- CMP (zp),Y (R204, R156). -/
def execCmpIndY (b : Byte) (s : State) : Answer := onByteAt 2 (eaIndY b) State.cmp s

/-- CMP zp,X (R204, R148). -/
def execCmpZpX (b : Byte) (s : State) : Answer := onByteAt 2 (eaZpX b) State.cmp s

/-- CMP abs,Y (R204, R152). -/
def execCmpAbsY (w : Word) (s : State) : Answer := onByteAt 3 (eaAbsY w) State.cmp s

/-- CMP abs,X (R204, R151). -/
def execCmpAbsX (w : Word) (s : State) : Answer := onByteAt 3 (eaAbsX w) State.cmp s

/-- CPX # (R205, R146). -/
def execCpxImm (b : Byte) (s : State) : Answer := onImmediate b State.cpx s

/-- CPX zp (R205, R147). -/
def execCpxZp (b : Byte) (s : State) : Answer := onByteAt 2 (eaZp b) State.cpx s

/-- CPX abs (R205, R150). -/
def execCpxAbs (w : Word) (s : State) : Answer := onByteAt 3 (eaAbs w) State.cpx s

/-- CPY # (R206, R146). -/
def execCpyImm (b : Byte) (s : State) : Answer := onImmediate b State.cpy s

/-- CPY zp (R206, R147). -/
def execCpyZp (b : Byte) (s : State) : Answer := onByteAt 2 (eaZp b) State.cpy s

/-- CPY abs (R206, R150). -/
def execCpyAbs (w : Word) (s : State) : Answer := onByteAt 3 (eaAbs w) State.cpy s

/-- INC zp (R207, R147). -/
def execIncZp (b : Byte) (s : State) : Answer := onAddress 2 (eaZp b) State.incAt s

/-- INC abs (R207, R150). -/
def execIncAbs (w : Word) (s : State) : Answer := onAddress 3 (eaAbs w) State.incAt s

/-- INC zp,X (R207, R148). -/
def execIncZpX (b : Byte) (s : State) : Answer := onAddress 2 (eaZpX b) State.incAt s

/-- INC abs,X (R207, R151). -/
def execIncAbsX (w : Word) (s : State) : Answer := onAddress 3 (eaAbsX w) State.incAt s

/-- DEC zp (R208, R147). -/
def execDecZp (b : Byte) (s : State) : Answer := onAddress 2 (eaZp b) State.decAt s

/-- DEC abs (R208, R150). -/
def execDecAbs (w : Word) (s : State) : Answer := onAddress 3 (eaAbs w) State.decAt s

/-- DEC zp,X (R208, R148). -/
def execDecZpX (b : Byte) (s : State) : Answer := onAddress 2 (eaZpX b) State.decAt s

/-- DEC abs,X (R208, R151). -/
def execDecAbsX (w : Word) (s : State) : Answer := onAddress 3 (eaAbsX w) State.decAt s

/-- INX (R209, R157). -/
def execInx (s : State) : Answer := onImplied State.inx s

/-- INY (R210, R157). -/
def execIny (s : State) : Answer := onImplied State.iny s

/-- DEX (R211, R157). -/
def execDex (s : State) : Answer := onImplied State.dex s

/-- DEY (R212, R157). -/
def execDey (s : State) : Answer := onImplied State.dey s

end Sys2Proof.Machine
end

