-- ==== Sys2Proof/Machine/Control.lean ====
section
/-! DEFINITION. The meanings of the family: Control transfer (43_control.md). A meaning receives the state whose PC is the opcode's address and
answers the state after the instruction; no instruction of this family faults. -/

namespace Sys2Proof.Machine

/-- JSR's effect: push PC - 1, then jump (R241). -/
def State.jsr (s : State) (target : Word) : State := (s.push16 (s.pc - 1)).setPc target

/-- RTS's effect: the popped address plus 1 (R242). -/
def State.rts (s : State) : State := s.popped16.setPc (s.pop16Value + 1)

/-- JMP abs (R240, R150). -/
def execJmpAbs (w : Word) (s : State) : Answer := onAddress 3 (eaAbs w) State.setPc s

/-- JMP (ind) (R240, R154). -/
def execJmpInd (w : Word) (s : State) : Answer := onAddress 3 (eaInd w) State.setPc s

/-- JSR abs (R241, R150). -/
def execJsr (w : Word) (s : State) : Answer := onAddress 3 (eaAbs w) State.jsr s

/-- RTS (R242, R157). -/
def execRts (s : State) : Answer := onImplied State.rts s

/-- BRK (R243, R146). -/
def execBrk (sig : Byte) (s : State) : Answer := onImmediate sig (fun t _ => t.takeTrap) s

/-- RTI (R244, R157). -/
def execRti (s : State) : Answer := onImplied State.returnFromTrap s

/-- BCC rel (R246, R153). -/
def execBcc (off : Byte) (s : State) : Answer := onBranch off (fun t => !t.flag .carry) s

/-- BCS rel (R247, R153). -/
def execBcs (off : Byte) (s : State) : Answer := onBranch off (fun t => t.flag .carry) s

/-- BEQ rel (R248, R153). -/
def execBeq (off : Byte) (s : State) : Answer := onBranch off (fun t => t.flag .zero) s

/-- BMI rel (R249, R153). -/
def execBmi (off : Byte) (s : State) : Answer := onBranch off (fun t => t.flag .negative) s

/-- BNE rel (R250, R153). -/
def execBne (off : Byte) (s : State) : Answer := onBranch off (fun t => !t.flag .zero) s

/-- BPL rel (R251, R153). -/
def execBpl (off : Byte) (s : State) : Answer := onBranch off (fun t => !t.flag .negative) s

/-- BVC rel (R252, R153). -/
def execBvc (off : Byte) (s : State) : Answer := onBranch off (fun t => !t.flag .overflow) s

/-- BVS rel (R253, R153). -/
def execBvs (off : Byte) (s : State) : Answer := onBranch off (fun t => t.flag .overflow) s

end Sys2Proof.Machine
end

