-- ==== Sys2Proof/Machine/FlagOps.lean ====
section
/-! DEFINITION. The meanings of the family: Flag instructions and NOP (47_flags_misc.md). A meaning receives the state whose PC is the opcode's address and
answers the state after the instruction; no instruction of this family faults. -/

namespace Sys2Proof.Machine


/-- CLC (R320, R157). -/
def execClc (s : State) : Answer := onImplied (fun t => t.setFlag .carry false) s

/-- CLD (R321, R157). -/
def execCld (s : State) : Answer := onImplied (fun t => t.setFlag .decimal false) s

/-- CLI (R322, R157). -/
def execCli (s : State) : Answer := onImplied (fun t => t.setFlag .interruptDisable false) s

/-- CLV (R323, R157). -/
def execClv (s : State) : Answer := onImplied (fun t => t.setFlag .overflow false) s

/-- SEC (R324, R157). -/
def execSec (s : State) : Answer := onImplied (fun t => t.setFlag .carry true) s

/-- SED (R325, R157). -/
def execSed (s : State) : Answer := onImplied (fun t => t.setFlag .decimal true) s

/-- SEI (R326, R157). -/
def execSei (s : State) : Answer := onImplied (fun t => t.setFlag .interruptDisable true) s

/-- NOP (R327, R157). -/
def execNop (s : State) : Answer := onImplied (fun t => t) s

end Sys2Proof.Machine
end

