-- ==== Sys2Proof/Machine/LoadStore.lean ====
section
/-! DEFINITION. The meanings of the family: Loads and stores (44_load_store.md). A meaning receives the state whose PC is the opcode's address and
answers the state after the instruction; no instruction of this family faults. -/

namespace Sys2Proof.Machine

/-- LDA's effect (R260). -/
def State.lda (s : State) (m : Byte) : State := (s.setA m).setZN m

/-- LDX's effect (R261). -/
def State.ldx (s : State) (m : Byte) : State := (s.setX m).setZN m

/-- LDY's effect (R262). -/
def State.ldy (s : State) (m : Byte) : State := (s.setY m).setZN m

/-- STA's effect: one write, no read (R263). -/
def State.sta (s : State) (ea : Word) : State := s.write ea s.a

/-- STX's effect (R264). -/
def State.stx (s : State) (ea : Word) : State := s.write ea s.x

/-- STY's effect (R265). -/
def State.sty (s : State) (ea : Word) : State := s.write ea s.y

/-- LDA (zp,X) (R260, R155). -/
def execLdaIndX (b : Byte) (s : State) : Answer := onByteAt 2 (eaIndX b) State.lda s

/-- LDA zp (R260, R147). -/
def execLdaZp (b : Byte) (s : State) : Answer := onByteAt 2 (eaZp b) State.lda s

/-- LDA # (R260, R146). -/
def execLdaImm (b : Byte) (s : State) : Answer := onImmediate b State.lda s

/-- LDA abs (R260, R150). -/
def execLdaAbs (w : Word) (s : State) : Answer := onByteAt 3 (eaAbs w) State.lda s

/-- LDA (zp),Y (R260, R156). -/
def execLdaIndY (b : Byte) (s : State) : Answer := onByteAt 2 (eaIndY b) State.lda s

/-- LDA zp,X (R260, R148). -/
def execLdaZpX (b : Byte) (s : State) : Answer := onByteAt 2 (eaZpX b) State.lda s

/-- LDA abs,Y (R260, R152). -/
def execLdaAbsY (w : Word) (s : State) : Answer := onByteAt 3 (eaAbsY w) State.lda s

/-- LDA abs,X (R260, R151). -/
def execLdaAbsX (w : Word) (s : State) : Answer := onByteAt 3 (eaAbsX w) State.lda s

/-- LDX # (R261, R146). -/
def execLdxImm (b : Byte) (s : State) : Answer := onImmediate b State.ldx s

/-- LDX zp (R261, R147). -/
def execLdxZp (b : Byte) (s : State) : Answer := onByteAt 2 (eaZp b) State.ldx s

/-- LDX abs (R261, R150). -/
def execLdxAbs (w : Word) (s : State) : Answer := onByteAt 3 (eaAbs w) State.ldx s

/-- LDX zp,Y (R261, R149). -/
def execLdxZpY (b : Byte) (s : State) : Answer := onByteAt 2 (eaZpY b) State.ldx s

/-- LDX abs,Y (R261, R152). -/
def execLdxAbsY (w : Word) (s : State) : Answer := onByteAt 3 (eaAbsY w) State.ldx s

/-- LDY # (R262, R146). -/
def execLdyImm (b : Byte) (s : State) : Answer := onImmediate b State.ldy s

/-- LDY zp (R262, R147). -/
def execLdyZp (b : Byte) (s : State) : Answer := onByteAt 2 (eaZp b) State.ldy s

/-- LDY abs (R262, R150). -/
def execLdyAbs (w : Word) (s : State) : Answer := onByteAt 3 (eaAbs w) State.ldy s

/-- LDY zp,X (R262, R148). -/
def execLdyZpX (b : Byte) (s : State) : Answer := onByteAt 2 (eaZpX b) State.ldy s

/-- LDY abs,X (R262, R151). -/
def execLdyAbsX (w : Word) (s : State) : Answer := onByteAt 3 (eaAbsX w) State.ldy s

/-- STA (zp,X) (R263, R155). -/
def execStaIndX (b : Byte) (s : State) : Answer := onAddress 2 (eaIndX b) State.sta s

/-- STA zp (R263, R147). -/
def execStaZp (b : Byte) (s : State) : Answer := onAddress 2 (eaZp b) State.sta s

/-- STA abs (R263, R150). -/
def execStaAbs (w : Word) (s : State) : Answer := onAddress 3 (eaAbs w) State.sta s

/-- STA (zp),Y (R263, R156). -/
def execStaIndY (b : Byte) (s : State) : Answer := onAddress 2 (eaIndY b) State.sta s

/-- STA zp,X (R263, R148). -/
def execStaZpX (b : Byte) (s : State) : Answer := onAddress 2 (eaZpX b) State.sta s

/-- STA abs,Y (R263, R152). -/
def execStaAbsY (w : Word) (s : State) : Answer := onAddress 3 (eaAbsY w) State.sta s

/-- STA abs,X (R263, R151). -/
def execStaAbsX (w : Word) (s : State) : Answer := onAddress 3 (eaAbsX w) State.sta s

/-- STX zp (R264, R147). -/
def execStxZp (b : Byte) (s : State) : Answer := onAddress 2 (eaZp b) State.stx s

/-- STX abs (R264, R150). -/
def execStxAbs (w : Word) (s : State) : Answer := onAddress 3 (eaAbs w) State.stx s

/-- STX zp,Y (R264, R149). -/
def execStxZpY (b : Byte) (s : State) : Answer := onAddress 2 (eaZpY b) State.stx s

/-- STY zp (R265, R147). -/
def execStyZp (b : Byte) (s : State) : Answer := onAddress 2 (eaZp b) State.sty s

/-- STY abs (R265, R150). -/
def execStyAbs (w : Word) (s : State) : Answer := onAddress 3 (eaAbs w) State.sty s

/-- STY zp,X (R265, R148). -/
def execStyZpX (b : Byte) (s : State) : Answer := onAddress 2 (eaZpX b) State.sty s

end Sys2Proof.Machine
end

