-- ==== Sys2Proof/Machine/Logic.lean ====
section
/-! DEFINITION. The meanings of the family: Logic, bit test, shifts and rotates (46_logic_shift.md). A meaning receives the state whose PC is the opcode's address and
answers the state after the instruction; no instruction of this family faults. -/

namespace Sys2Proof.Machine

/-- AND's effect (R300). -/
def State.andA (s : State) (m : Byte) : State := (s.setA (s.a &&& m)).setZN (s.a &&& m)

/-- ORA's effect (R301). -/
def State.oraA (s : State) (m : Byte) : State := (s.setA (s.a ||| m)).setZN (s.a ||| m)

/-- EOR's effect (R302). -/
def State.eorA (s : State) (m : Byte) : State := (s.setA (s.a ^^^ m)).setZN (s.a ^^^ m)

/-- AND (zp,X) (R300, R155). -/
def execAndIndX (b : Byte) (s : State) : Answer := onByteAt 2 (eaIndX b) State.andA s

/-- AND zp (R300, R147). -/
def execAndZp (b : Byte) (s : State) : Answer := onByteAt 2 (eaZp b) State.andA s

/-- AND # (R300, R146). -/
def execAndImm (b : Byte) (s : State) : Answer := onImmediate b State.andA s

/-- AND abs (R300, R150). -/
def execAndAbs (w : Word) (s : State) : Answer := onByteAt 3 (eaAbs w) State.andA s

/-- AND (zp),Y (R300, R156). -/
def execAndIndY (b : Byte) (s : State) : Answer := onByteAt 2 (eaIndY b) State.andA s

/-- AND zp,X (R300, R148). -/
def execAndZpX (b : Byte) (s : State) : Answer := onByteAt 2 (eaZpX b) State.andA s

/-- AND abs,Y (R300, R152). -/
def execAndAbsY (w : Word) (s : State) : Answer := onByteAt 3 (eaAbsY w) State.andA s

/-- AND abs,X (R300, R151). -/
def execAndAbsX (w : Word) (s : State) : Answer := onByteAt 3 (eaAbsX w) State.andA s

/-- ORA (zp,X) (R301, R155). -/
def execOraIndX (b : Byte) (s : State) : Answer := onByteAt 2 (eaIndX b) State.oraA s

/-- ORA zp (R301, R147). -/
def execOraZp (b : Byte) (s : State) : Answer := onByteAt 2 (eaZp b) State.oraA s

/-- ORA # (R301, R146). -/
def execOraImm (b : Byte) (s : State) : Answer := onImmediate b State.oraA s

/-- ORA abs (R301, R150). -/
def execOraAbs (w : Word) (s : State) : Answer := onByteAt 3 (eaAbs w) State.oraA s

/-- ORA (zp),Y (R301, R156). -/
def execOraIndY (b : Byte) (s : State) : Answer := onByteAt 2 (eaIndY b) State.oraA s

/-- ORA zp,X (R301, R148). -/
def execOraZpX (b : Byte) (s : State) : Answer := onByteAt 2 (eaZpX b) State.oraA s

/-- ORA abs,Y (R301, R152). -/
def execOraAbsY (w : Word) (s : State) : Answer := onByteAt 3 (eaAbsY w) State.oraA s

/-- ORA abs,X (R301, R151). -/
def execOraAbsX (w : Word) (s : State) : Answer := onByteAt 3 (eaAbsX w) State.oraA s

/-- EOR (zp,X) (R302, R155). -/
def execEorIndX (b : Byte) (s : State) : Answer := onByteAt 2 (eaIndX b) State.eorA s

/-- EOR zp (R302, R147). -/
def execEorZp (b : Byte) (s : State) : Answer := onByteAt 2 (eaZp b) State.eorA s

/-- EOR # (R302, R146). -/
def execEorImm (b : Byte) (s : State) : Answer := onImmediate b State.eorA s

/-- EOR abs (R302, R150). -/
def execEorAbs (w : Word) (s : State) : Answer := onByteAt 3 (eaAbs w) State.eorA s

/-- EOR (zp),Y (R302, R156). -/
def execEorIndY (b : Byte) (s : State) : Answer := onByteAt 2 (eaIndY b) State.eorA s

/-- EOR zp,X (R302, R148). -/
def execEorZpX (b : Byte) (s : State) : Answer := onByteAt 2 (eaZpX b) State.eorA s

/-- EOR abs,Y (R302, R152). -/
def execEorAbsY (w : Word) (s : State) : Answer := onByteAt 3 (eaAbsY w) State.eorA s

/-- EOR abs,X (R302, R151). -/
def execEorAbsX (w : Word) (s : State) : Answer := onByteAt 3 (eaAbsX w) State.eorA s

/-- BIT zp (R303, R147). -/
def execBitZp (b : Byte) (s : State) : Answer := onByteAt 2 (eaZp b) State.bitTest s

/-- BIT abs (R303, R150). -/
def execBitAbs (w : Word) (s : State) : Answer := onByteAt 3 (eaAbs w) State.bitTest s

/-- ASL zp (R305, R147). -/
def execAslZp (b : Byte) (s : State) : Answer := onShifted 2 (eaZp b) shiftLeft s

/-- ASL A (R305, R157). -/
def execAslAcc (s : State) : Answer := onAccumulator shiftLeft s

/-- ASL abs (R305, R150). -/
def execAslAbs (w : Word) (s : State) : Answer := onShifted 3 (eaAbs w) shiftLeft s

/-- ASL zp,X (R305, R148). -/
def execAslZpX (b : Byte) (s : State) : Answer := onShifted 2 (eaZpX b) shiftLeft s

/-- ASL abs,X (R305, R151). -/
def execAslAbsX (w : Word) (s : State) : Answer := onShifted 3 (eaAbsX w) shiftLeft s

/-- LSR zp (R306, R147). -/
def execLsrZp (b : Byte) (s : State) : Answer := onShifted 2 (eaZp b) shiftRight s

/-- LSR A (R306, R157). -/
def execLsrAcc (s : State) : Answer := onAccumulator shiftRight s

/-- LSR abs (R306, R150). -/
def execLsrAbs (w : Word) (s : State) : Answer := onShifted 3 (eaAbs w) shiftRight s

/-- LSR zp,X (R306, R148). -/
def execLsrZpX (b : Byte) (s : State) : Answer := onShifted 2 (eaZpX b) shiftRight s

/-- LSR abs,X (R306, R151). -/
def execLsrAbsX (w : Word) (s : State) : Answer := onShifted 3 (eaAbsX w) shiftRight s

/-- ROL zp (R307, R147). -/
def execRolZp (b : Byte) (s : State) : Answer := onShifted 2 (eaZp b) rotateLeft s

/-- ROL A (R307, R157). -/
def execRolAcc (s : State) : Answer := onAccumulator rotateLeft s

/-- ROL abs (R307, R150). -/
def execRolAbs (w : Word) (s : State) : Answer := onShifted 3 (eaAbs w) rotateLeft s

/-- ROL zp,X (R307, R148). -/
def execRolZpX (b : Byte) (s : State) : Answer := onShifted 2 (eaZpX b) rotateLeft s

/-- ROL abs,X (R307, R151). -/
def execRolAbsX (w : Word) (s : State) : Answer := onShifted 3 (eaAbsX w) rotateLeft s

/-- ROR zp (R308, R147). -/
def execRorZp (b : Byte) (s : State) : Answer := onShifted 2 (eaZp b) rotateRight s

/-- ROR A (R308, R157). -/
def execRorAcc (s : State) : Answer := onAccumulator rotateRight s

/-- ROR abs (R308, R150). -/
def execRorAbs (w : Word) (s : State) : Answer := onShifted 3 (eaAbs w) rotateRight s

/-- ROR zp,X (R308, R148). -/
def execRorZpX (b : Byte) (s : State) : Answer := onShifted 2 (eaZpX b) rotateRight s

/-- ROR abs,X (R308, R151). -/
def execRorAbsX (w : Word) (s : State) : Answer := onShifted 3 (eaAbsX w) rotateRight s

end Sys2Proof.Machine
end

