-- ==== Sys2Proof/Machine/Stack.lean ====
section
/-! DEFINITION. The meanings of the family: Stack (42_stack.md). A meaning receives the state whose PC is the opcode's address and
answers the state after the instruction; no instruction of this family faults. -/

namespace Sys2Proof.Machine

/-- PHA's effect (R220). -/
def State.pha (s : State) : State := s.push s.a

/-- PHP's effect: the pushed copy has B and U set (R221). -/
def State.php (s : State) : State := s.push (pushedStatus s.p)

/-- PLA's effect (R222). -/
def State.pla (s : State) : State := (s.popped.setA s.popValue).setZN s.popValue

/-- PLP's effect: B stays 0, U is 1 (R223). -/
def State.plp (s : State) : State := s.popped.setP (pulledStatus s.popValue)

/-- TSX's effect (R224). -/
def State.tsx (s : State) : State := (s.setX s.sp).setZN s.sp

/-- TXS's effect: no flag (R225). -/
def State.txs (s : State) : State := s.setSp s.x

/-- PHA (R220, R157). -/
def execPha (s : State) : Answer := onImplied State.pha s

/-- PHP (R221, R157). -/
def execPhp (s : State) : Answer := onImplied State.php s

/-- PLA (R222, R157). -/
def execPla (s : State) : Answer := onImplied State.pla s

/-- PLP (R223, R157). -/
def execPlp (s : State) : Answer := onImplied State.plp s

/-- TSX (R224, R157). -/
def execTsx (s : State) : Answer := onImplied State.tsx s

/-- TXS (R225, R157). -/
def execTxs (s : State) : Answer := onImplied State.txs s

end Sys2Proof.Machine
end

