-- ==== Sys2Proof/Machine/Transfer.lean ====
section
/-! DEFINITION. The meanings of the family: Register transfers (45_register_transfer.md). A meaning receives the state whose PC is the opcode's address and
answers the state after the instruction; no instruction of this family faults. -/

namespace Sys2Proof.Machine

/-- TAX's effect (R280). -/
def State.tax (s : State) : State := (s.setX s.a).setZN s.a

/-- TAY's effect (R281). -/
def State.tay (s : State) : State := (s.setY s.a).setZN s.a

/-- TXA's effect (R282). -/
def State.txa (s : State) : State := (s.setA s.x).setZN s.x

/-- TYA's effect (R283). -/
def State.tya (s : State) : State := (s.setA s.y).setZN s.y

/-- TAX (R280, R157). -/
def execTax (s : State) : Answer := onImplied State.tax s

/-- TAY (R281, R157). -/
def execTay (s : State) : Answer := onImplied State.tay s

/-- TXA (R282, R157). -/
def execTxa (s : State) : Answer := onImplied State.txa s

/-- TYA (R283, R157). -/
def execTya (s : State) : Answer := onImplied State.tya s

end Sys2Proof.Machine
end

