-- ==== Sys2Proof/Syntax.lean ====
section
/-! DEFINITION. The instruction set: one constructor per row of spec/opcode_table.json (rule R160 of 30_encoding.md),
carrying the row's operand bytes as rule R145 gives them: one byte, or the 16-bit value of two bytes, low byte first. The
name is the mnemonic and the addressing mode: Imm `#`, Zp `zp`, ZpX `zp,X`, ZpY `zp,Y`, Abs `abs`, AbsX `abs,X`, AbsY `abs,Y`,
Ind `(ind)`, IndX `(zp,X)`, IndY `(zp),Y`, Acc `A`; no suffix for Implied, Relative, BRK and JSR. -/

namespace Sys2Proof

/-- An instruction with its operand bytes. -/
inductive Instr where
  -- Arithmetic (41_arithmetic.md)
  | adcIndX (b : Byte)
  | adcZp (b : Byte)
  | adcImm (b : Byte)
  | adcAbs (w : Word)
  | adcIndY (b : Byte)
  | adcZpX (b : Byte)
  | adcAbsY (w : Word)
  | adcAbsX (w : Word)
  | sbcIndX (b : Byte)
  | sbcZp (b : Byte)
  | sbcImm (b : Byte)
  | sbcAbs (w : Word)
  | sbcIndY (b : Byte)
  | sbcZpX (b : Byte)
  | sbcAbsY (w : Word)
  | sbcAbsX (w : Word)
  | cmpIndX (b : Byte)
  | cmpZp (b : Byte)
  | cmpImm (b : Byte)
  | cmpAbs (w : Word)
  | cmpIndY (b : Byte)
  | cmpZpX (b : Byte)
  | cmpAbsY (w : Word)
  | cmpAbsX (w : Word)
  | cpxImm (b : Byte)
  | cpxZp (b : Byte)
  | cpxAbs (w : Word)
  | cpyImm (b : Byte)
  | cpyZp (b : Byte)
  | cpyAbs (w : Word)
  | incZp (b : Byte)
  | incAbs (w : Word)
  | incZpX (b : Byte)
  | incAbsX (w : Word)
  | decZp (b : Byte)
  | decAbs (w : Word)
  | decZpX (b : Byte)
  | decAbsX (w : Word)
  | inx
  | iny
  | dex
  | dey
  -- Stack (42_stack.md)
  | pha
  | php
  | pla
  | plp
  | tsx
  | txs
  -- Control transfer (43_control.md)
  | jmpAbs (w : Word)
  | jmpInd (w : Word)
  | jsr (w : Word)
  | rts
  | brk (sig : Byte)
  | rti
  | bcc (off : Byte)
  | bcs (off : Byte)
  | beq (off : Byte)
  | bmi (off : Byte)
  | bne (off : Byte)
  | bpl (off : Byte)
  | bvc (off : Byte)
  | bvs (off : Byte)
  -- Loads and stores (44_load_store.md)
  | ldaIndX (b : Byte)
  | ldaZp (b : Byte)
  | ldaImm (b : Byte)
  | ldaAbs (w : Word)
  | ldaIndY (b : Byte)
  | ldaZpX (b : Byte)
  | ldaAbsY (w : Word)
  | ldaAbsX (w : Word)
  | ldxImm (b : Byte)
  | ldxZp (b : Byte)
  | ldxAbs (w : Word)
  | ldxZpY (b : Byte)
  | ldxAbsY (w : Word)
  | ldyImm (b : Byte)
  | ldyZp (b : Byte)
  | ldyAbs (w : Word)
  | ldyZpX (b : Byte)
  | ldyAbsX (w : Word)
  | staIndX (b : Byte)
  | staZp (b : Byte)
  | staAbs (w : Word)
  | staIndY (b : Byte)
  | staZpX (b : Byte)
  | staAbsY (w : Word)
  | staAbsX (w : Word)
  | stxZp (b : Byte)
  | stxAbs (w : Word)
  | stxZpY (b : Byte)
  | styZp (b : Byte)
  | styAbs (w : Word)
  | styZpX (b : Byte)
  -- Register transfers (45_register_transfer.md)
  | tax
  | tay
  | txa
  | tya
  -- Logic, bit test, shifts and rotates (46_logic_shift.md)
  | andIndX (b : Byte)
  | andZp (b : Byte)
  | andImm (b : Byte)
  | andAbs (w : Word)
  | andIndY (b : Byte)
  | andZpX (b : Byte)
  | andAbsY (w : Word)
  | andAbsX (w : Word)
  | oraIndX (b : Byte)
  | oraZp (b : Byte)
  | oraImm (b : Byte)
  | oraAbs (w : Word)
  | oraIndY (b : Byte)
  | oraZpX (b : Byte)
  | oraAbsY (w : Word)
  | oraAbsX (w : Word)
  | eorIndX (b : Byte)
  | eorZp (b : Byte)
  | eorImm (b : Byte)
  | eorAbs (w : Word)
  | eorIndY (b : Byte)
  | eorZpX (b : Byte)
  | eorAbsY (w : Word)
  | eorAbsX (w : Word)
  | bitZp (b : Byte)
  | bitAbs (w : Word)
  | aslZp (b : Byte)
  | aslAcc
  | aslAbs (w : Word)
  | aslZpX (b : Byte)
  | aslAbsX (w : Word)
  | lsrZp (b : Byte)
  | lsrAcc
  | lsrAbs (w : Word)
  | lsrZpX (b : Byte)
  | lsrAbsX (w : Word)
  | rolZp (b : Byte)
  | rolAcc
  | rolAbs (w : Word)
  | rolZpX (b : Byte)
  | rolAbsX (w : Word)
  | rorZp (b : Byte)
  | rorAcc
  | rorAbs (w : Word)
  | rorZpX (b : Byte)
  | rorAbsX (w : Word)
  -- Flag instructions and NOP (47_flags_misc.md)
  | clc
  | cld
  | cli
  | clv
  | sec
  | sed
  | sei
  | nop
  deriving DecidableEq, Repr

end Sys2Proof
end

