-- ==== Sys2Proof/Decode.lean ====
section
/-! DEFINITION. The decoder (rules R141, R145, R160 to R163 of 30_encoding.md), the encoder, lengths and base cycle counts
(rule R461 of 70_reset_and_hazards.md). -/

namespace Sys2Proof

/-- The 13 addressing modes (R145). The fourteenth, Unknown, is the absence of a table entry. -/
inductive Mode where
  | implied
  | accumulator
  | immediate
  | zeroPage
  | zeroPageX
  | zeroPageY
  | absolute
  | absoluteX
  | absoluteY
  | indirect
  | indexedIndirect
  | indirectIndexed
  | relative
  deriving DecidableEq, Repr

/-- The number of operand bytes of a mode (R145, R163). -/
def operandBytes : Mode → Nat
  | .implied | .accumulator => 0
  | .immediate | .zeroPage | .zeroPageX | .zeroPageY | .indexedIndirect | .indirectIndexed | .relative => 1
  | .absolute | .absoluteX | .absoluteY | .indirect => 2

/-- How the operand bytes make the instruction: none, one byte, or a 16-bit value. -/
inductive Form where
  | plain (i : Instr)
  | byte (mk : Byte → Instr)
  | word (mk : Word → Instr)

/-- The 56 mnemonics (R160). -/
inductive Mnemonic where
  | adc
  | sbc
  | cmp
  | cpx
  | cpy
  | inc
  | dec
  | inx
  | iny
  | dex
  | dey
  | pha
  | php
  | pla
  | plp
  | tsx
  | txs
  | jmp
  | jsr
  | rts
  | brk
  | rti
  | bcc
  | bcs
  | beq
  | bmi
  | bne
  | bpl
  | bvc
  | bvs
  | lda
  | ldx
  | ldy
  | sta
  | stx
  | sty
  | tax
  | tay
  | txa
  | tya
  | and
  | ora
  | eor
  | bit
  | asl
  | lsr
  | rol
  | ror
  | clc
  | cld
  | cli
  | clv
  | sec
  | sed
  | sei
  | nop
  deriving DecidableEq, Repr

/-- An entry of the opcode table: "opcode byte → (mnemonic, addressing mode, base cycle count)" (R141), and the
instruction it stands for. -/
structure Entry where
  mnemonic : Mnemonic
  mode : Mode
  cycles : Nat
  form : Form

/-- The opcode table (R160, R461), keyed by the opcode byte as a number; the 105 opcodes of R161 have no entry. -/
def opcodeEntry : Nat → Option Entry
  | 0x00 => some ⟨.brk, .immediate, 7, .byte .brk⟩
  | 0x01 => some ⟨.ora, .indexedIndirect, 6, .byte .oraIndX⟩
  | 0x05 => some ⟨.ora, .zeroPage, 3, .byte .oraZp⟩
  | 0x06 => some ⟨.asl, .zeroPage, 5, .byte .aslZp⟩
  | 0x08 => some ⟨.php, .implied, 3, .plain .php⟩
  | 0x09 => some ⟨.ora, .immediate, 2, .byte .oraImm⟩
  | 0x0A => some ⟨.asl, .accumulator, 2, .plain .aslAcc⟩
  | 0x0D => some ⟨.ora, .absolute, 4, .word .oraAbs⟩
  | 0x0E => some ⟨.asl, .absolute, 6, .word .aslAbs⟩
  | 0x10 => some ⟨.bpl, .relative, 2, .byte .bpl⟩
  | 0x11 => some ⟨.ora, .indirectIndexed, 5, .byte .oraIndY⟩
  | 0x15 => some ⟨.ora, .zeroPageX, 4, .byte .oraZpX⟩
  | 0x16 => some ⟨.asl, .zeroPageX, 6, .byte .aslZpX⟩
  | 0x18 => some ⟨.clc, .implied, 2, .plain .clc⟩
  | 0x19 => some ⟨.ora, .absoluteY, 4, .word .oraAbsY⟩
  | 0x1D => some ⟨.ora, .absoluteX, 4, .word .oraAbsX⟩
  | 0x1E => some ⟨.asl, .absoluteX, 7, .word .aslAbsX⟩
  | 0x20 => some ⟨.jsr, .absolute, 6, .word .jsr⟩
  | 0x21 => some ⟨.and, .indexedIndirect, 6, .byte .andIndX⟩
  | 0x24 => some ⟨.bit, .zeroPage, 3, .byte .bitZp⟩
  | 0x25 => some ⟨.and, .zeroPage, 3, .byte .andZp⟩
  | 0x26 => some ⟨.rol, .zeroPage, 5, .byte .rolZp⟩
  | 0x28 => some ⟨.plp, .implied, 4, .plain .plp⟩
  | 0x29 => some ⟨.and, .immediate, 2, .byte .andImm⟩
  | 0x2A => some ⟨.rol, .accumulator, 2, .plain .rolAcc⟩
  | 0x2C => some ⟨.bit, .absolute, 4, .word .bitAbs⟩
  | 0x2D => some ⟨.and, .absolute, 4, .word .andAbs⟩
  | 0x2E => some ⟨.rol, .absolute, 6, .word .rolAbs⟩
  | 0x30 => some ⟨.bmi, .relative, 2, .byte .bmi⟩
  | 0x31 => some ⟨.and, .indirectIndexed, 5, .byte .andIndY⟩
  | 0x35 => some ⟨.and, .zeroPageX, 4, .byte .andZpX⟩
  | 0x36 => some ⟨.rol, .zeroPageX, 6, .byte .rolZpX⟩
  | 0x38 => some ⟨.sec, .implied, 2, .plain .sec⟩
  | 0x39 => some ⟨.and, .absoluteY, 4, .word .andAbsY⟩
  | 0x3D => some ⟨.and, .absoluteX, 4, .word .andAbsX⟩
  | 0x3E => some ⟨.rol, .absoluteX, 7, .word .rolAbsX⟩
  | 0x40 => some ⟨.rti, .implied, 6, .plain .rti⟩
  | 0x41 => some ⟨.eor, .indexedIndirect, 6, .byte .eorIndX⟩
  | 0x45 => some ⟨.eor, .zeroPage, 3, .byte .eorZp⟩
  | 0x46 => some ⟨.lsr, .zeroPage, 5, .byte .lsrZp⟩
  | 0x48 => some ⟨.pha, .implied, 3, .plain .pha⟩
  | 0x49 => some ⟨.eor, .immediate, 2, .byte .eorImm⟩
  | 0x4A => some ⟨.lsr, .accumulator, 2, .plain .lsrAcc⟩
  | 0x4C => some ⟨.jmp, .absolute, 3, .word .jmpAbs⟩
  | 0x4D => some ⟨.eor, .absolute, 4, .word .eorAbs⟩
  | 0x4E => some ⟨.lsr, .absolute, 6, .word .lsrAbs⟩
  | 0x50 => some ⟨.bvc, .relative, 2, .byte .bvc⟩
  | 0x51 => some ⟨.eor, .indirectIndexed, 5, .byte .eorIndY⟩
  | 0x55 => some ⟨.eor, .zeroPageX, 4, .byte .eorZpX⟩
  | 0x56 => some ⟨.lsr, .zeroPageX, 6, .byte .lsrZpX⟩
  | 0x58 => some ⟨.cli, .implied, 2, .plain .cli⟩
  | 0x59 => some ⟨.eor, .absoluteY, 4, .word .eorAbsY⟩
  | 0x5D => some ⟨.eor, .absoluteX, 4, .word .eorAbsX⟩
  | 0x5E => some ⟨.lsr, .absoluteX, 7, .word .lsrAbsX⟩
  | 0x60 => some ⟨.rts, .implied, 6, .plain .rts⟩
  | 0x61 => some ⟨.adc, .indexedIndirect, 6, .byte .adcIndX⟩
  | 0x65 => some ⟨.adc, .zeroPage, 3, .byte .adcZp⟩
  | 0x66 => some ⟨.ror, .zeroPage, 5, .byte .rorZp⟩
  | 0x68 => some ⟨.pla, .implied, 4, .plain .pla⟩
  | 0x69 => some ⟨.adc, .immediate, 2, .byte .adcImm⟩
  | 0x6A => some ⟨.ror, .accumulator, 2, .plain .rorAcc⟩
  | 0x6C => some ⟨.jmp, .indirect, 5, .word .jmpInd⟩
  | 0x6D => some ⟨.adc, .absolute, 4, .word .adcAbs⟩
  | 0x6E => some ⟨.ror, .absolute, 6, .word .rorAbs⟩
  | 0x70 => some ⟨.bvs, .relative, 2, .byte .bvs⟩
  | 0x71 => some ⟨.adc, .indirectIndexed, 5, .byte .adcIndY⟩
  | 0x75 => some ⟨.adc, .zeroPageX, 4, .byte .adcZpX⟩
  | 0x76 => some ⟨.ror, .zeroPageX, 6, .byte .rorZpX⟩
  | 0x78 => some ⟨.sei, .implied, 2, .plain .sei⟩
  | 0x79 => some ⟨.adc, .absoluteY, 4, .word .adcAbsY⟩
  | 0x7D => some ⟨.adc, .absoluteX, 4, .word .adcAbsX⟩
  | 0x7E => some ⟨.ror, .absoluteX, 7, .word .rorAbsX⟩
  | 0x81 => some ⟨.sta, .indexedIndirect, 6, .byte .staIndX⟩
  | 0x84 => some ⟨.sty, .zeroPage, 3, .byte .styZp⟩
  | 0x85 => some ⟨.sta, .zeroPage, 3, .byte .staZp⟩
  | 0x86 => some ⟨.stx, .zeroPage, 3, .byte .stxZp⟩
  | 0x88 => some ⟨.dey, .implied, 2, .plain .dey⟩
  | 0x8A => some ⟨.txa, .implied, 2, .plain .txa⟩
  | 0x8C => some ⟨.sty, .absolute, 4, .word .styAbs⟩
  | 0x8D => some ⟨.sta, .absolute, 4, .word .staAbs⟩
  | 0x8E => some ⟨.stx, .absolute, 4, .word .stxAbs⟩
  | 0x90 => some ⟨.bcc, .relative, 2, .byte .bcc⟩
  | 0x91 => some ⟨.sta, .indirectIndexed, 6, .byte .staIndY⟩
  | 0x94 => some ⟨.sty, .zeroPageX, 4, .byte .styZpX⟩
  | 0x95 => some ⟨.sta, .zeroPageX, 4, .byte .staZpX⟩
  | 0x96 => some ⟨.stx, .zeroPageY, 4, .byte .stxZpY⟩
  | 0x98 => some ⟨.tya, .implied, 2, .plain .tya⟩
  | 0x99 => some ⟨.sta, .absoluteY, 5, .word .staAbsY⟩
  | 0x9A => some ⟨.txs, .implied, 2, .plain .txs⟩
  | 0x9D => some ⟨.sta, .absoluteX, 5, .word .staAbsX⟩
  | 0xA0 => some ⟨.ldy, .immediate, 2, .byte .ldyImm⟩
  | 0xA1 => some ⟨.lda, .indexedIndirect, 6, .byte .ldaIndX⟩
  | 0xA2 => some ⟨.ldx, .immediate, 2, .byte .ldxImm⟩
  | 0xA4 => some ⟨.ldy, .zeroPage, 3, .byte .ldyZp⟩
  | 0xA5 => some ⟨.lda, .zeroPage, 3, .byte .ldaZp⟩
  | 0xA6 => some ⟨.ldx, .zeroPage, 3, .byte .ldxZp⟩
  | 0xA8 => some ⟨.tay, .implied, 2, .plain .tay⟩
  | 0xA9 => some ⟨.lda, .immediate, 2, .byte .ldaImm⟩
  | 0xAA => some ⟨.tax, .implied, 2, .plain .tax⟩
  | 0xAC => some ⟨.ldy, .absolute, 4, .word .ldyAbs⟩
  | 0xAD => some ⟨.lda, .absolute, 4, .word .ldaAbs⟩
  | 0xAE => some ⟨.ldx, .absolute, 4, .word .ldxAbs⟩
  | 0xB0 => some ⟨.bcs, .relative, 2, .byte .bcs⟩
  | 0xB1 => some ⟨.lda, .indirectIndexed, 5, .byte .ldaIndY⟩
  | 0xB4 => some ⟨.ldy, .zeroPageX, 4, .byte .ldyZpX⟩
  | 0xB5 => some ⟨.lda, .zeroPageX, 4, .byte .ldaZpX⟩
  | 0xB6 => some ⟨.ldx, .zeroPageY, 4, .byte .ldxZpY⟩
  | 0xB8 => some ⟨.clv, .implied, 2, .plain .clv⟩
  | 0xB9 => some ⟨.lda, .absoluteY, 4, .word .ldaAbsY⟩
  | 0xBA => some ⟨.tsx, .implied, 2, .plain .tsx⟩
  | 0xBC => some ⟨.ldy, .absoluteX, 4, .word .ldyAbsX⟩
  | 0xBD => some ⟨.lda, .absoluteX, 4, .word .ldaAbsX⟩
  | 0xBE => some ⟨.ldx, .absoluteY, 4, .word .ldxAbsY⟩
  | 0xC0 => some ⟨.cpy, .immediate, 2, .byte .cpyImm⟩
  | 0xC1 => some ⟨.cmp, .indexedIndirect, 6, .byte .cmpIndX⟩
  | 0xC4 => some ⟨.cpy, .zeroPage, 3, .byte .cpyZp⟩
  | 0xC5 => some ⟨.cmp, .zeroPage, 3, .byte .cmpZp⟩
  | 0xC6 => some ⟨.dec, .zeroPage, 5, .byte .decZp⟩
  | 0xC8 => some ⟨.iny, .implied, 2, .plain .iny⟩
  | 0xC9 => some ⟨.cmp, .immediate, 2, .byte .cmpImm⟩
  | 0xCA => some ⟨.dex, .implied, 2, .plain .dex⟩
  | 0xCC => some ⟨.cpy, .absolute, 4, .word .cpyAbs⟩
  | 0xCD => some ⟨.cmp, .absolute, 4, .word .cmpAbs⟩
  | 0xCE => some ⟨.dec, .absolute, 6, .word .decAbs⟩
  | 0xD0 => some ⟨.bne, .relative, 2, .byte .bne⟩
  | 0xD1 => some ⟨.cmp, .indirectIndexed, 5, .byte .cmpIndY⟩
  | 0xD5 => some ⟨.cmp, .zeroPageX, 4, .byte .cmpZpX⟩
  | 0xD6 => some ⟨.dec, .zeroPageX, 6, .byte .decZpX⟩
  | 0xD8 => some ⟨.cld, .implied, 2, .plain .cld⟩
  | 0xD9 => some ⟨.cmp, .absoluteY, 4, .word .cmpAbsY⟩
  | 0xDD => some ⟨.cmp, .absoluteX, 4, .word .cmpAbsX⟩
  | 0xDE => some ⟨.dec, .absoluteX, 7, .word .decAbsX⟩
  | 0xE0 => some ⟨.cpx, .immediate, 2, .byte .cpxImm⟩
  | 0xE1 => some ⟨.sbc, .indexedIndirect, 6, .byte .sbcIndX⟩
  | 0xE4 => some ⟨.cpx, .zeroPage, 3, .byte .cpxZp⟩
  | 0xE5 => some ⟨.sbc, .zeroPage, 3, .byte .sbcZp⟩
  | 0xE6 => some ⟨.inc, .zeroPage, 5, .byte .incZp⟩
  | 0xE8 => some ⟨.inx, .implied, 2, .plain .inx⟩
  | 0xE9 => some ⟨.sbc, .immediate, 2, .byte .sbcImm⟩
  | 0xEA => some ⟨.nop, .implied, 2, .plain .nop⟩
  | 0xEC => some ⟨.cpx, .absolute, 4, .word .cpxAbs⟩
  | 0xED => some ⟨.sbc, .absolute, 4, .word .sbcAbs⟩
  | 0xEE => some ⟨.inc, .absolute, 6, .word .incAbs⟩
  | 0xF0 => some ⟨.beq, .relative, 2, .byte .beq⟩
  | 0xF1 => some ⟨.sbc, .indirectIndexed, 5, .byte .sbcIndY⟩
  | 0xF5 => some ⟨.sbc, .zeroPageX, 4, .byte .sbcZpX⟩
  | 0xF6 => some ⟨.inc, .zeroPageX, 6, .byte .incZpX⟩
  | 0xF8 => some ⟨.sed, .implied, 2, .plain .sed⟩
  | 0xF9 => some ⟨.sbc, .absoluteY, 4, .word .sbcAbsY⟩
  | 0xFD => some ⟨.sbc, .absoluteX, 4, .word .sbcAbsX⟩
  | 0xFE => some ⟨.inc, .absoluteX, 7, .word .incAbsX⟩
  | _ => none

/-- Why bytes are no instruction. -/
inductive DecodeError where
  /-- The opcode byte has no table entry (R141, R161). -/
  | unmapped (opcode : Byte)
  /-- There are fewer bytes than the instruction has. -/
  | truncated
  deriving DecidableEq, Repr

/-- The 16-bit operand of two operand bytes, low byte first (R65, R145). -/
def operandWord (lo hi : Byte) : Word := hi ++ lo

/-- The instruction of an entry and the two bytes after its opcode; a form with fewer operand bytes ignores the rest. -/
def Form.instr (f : Form) (b1 b2 : Byte) : Instr :=
  match f with
  | .plain i => i
  | .byte mk => mk b1
  | .word mk => mk (operandWord b1 b2)

/-- The instruction at an opcode byte and the two bytes after it (R141, R142, R163); none for an unmapped opcode. -/
def instrAt (op b1 b2 : Byte) : Option Instr := (opcodeEntry op.toNat).map (fun e => e.form.instr b1 b2)

/-- The decoder: the instruction at the front of a byte sequence, and the bytes after it. -/
def decode : List Byte → Except DecodeError (Instr × List Byte)
  | [] => .error .truncated
  | op :: rest =>
    match opcodeEntry op.toNat with
    | none => .error (.unmapped op)
    | some e =>
      match e.form, rest with
      | .plain i, rest => .ok (i, rest)
      | .byte mk, b :: rest => .ok (mk b, rest)
      | .word mk, lo :: hi :: rest => .ok (mk (operandWord lo hi), rest)
      | _, _ => .error .truncated

/-- The base cycle count of an opcode byte (R461); 0 for an unmapped opcode, which returns a fault instead (R401). -/
def baseCycles (op : Byte) : Nat :=
  match opcodeEntry op.toNat with
  | some e => e.cycles
  | none => 0

/-- The opcode byte of an instruction (R160). -/
def Instr.opcode : Instr → Byte
  | .adcIndX _ => 0x61
  | .adcZp _ => 0x65
  | .adcImm _ => 0x69
  | .adcAbs _ => 0x6D
  | .adcIndY _ => 0x71
  | .adcZpX _ => 0x75
  | .adcAbsY _ => 0x79
  | .adcAbsX _ => 0x7D
  | .sbcIndX _ => 0xE1
  | .sbcZp _ => 0xE5
  | .sbcImm _ => 0xE9
  | .sbcAbs _ => 0xED
  | .sbcIndY _ => 0xF1
  | .sbcZpX _ => 0xF5
  | .sbcAbsY _ => 0xF9
  | .sbcAbsX _ => 0xFD
  | .cmpIndX _ => 0xC1
  | .cmpZp _ => 0xC5
  | .cmpImm _ => 0xC9
  | .cmpAbs _ => 0xCD
  | .cmpIndY _ => 0xD1
  | .cmpZpX _ => 0xD5
  | .cmpAbsY _ => 0xD9
  | .cmpAbsX _ => 0xDD
  | .cpxImm _ => 0xE0
  | .cpxZp _ => 0xE4
  | .cpxAbs _ => 0xEC
  | .cpyImm _ => 0xC0
  | .cpyZp _ => 0xC4
  | .cpyAbs _ => 0xCC
  | .incZp _ => 0xE6
  | .incAbs _ => 0xEE
  | .incZpX _ => 0xF6
  | .incAbsX _ => 0xFE
  | .decZp _ => 0xC6
  | .decAbs _ => 0xCE
  | .decZpX _ => 0xD6
  | .decAbsX _ => 0xDE
  | .inx => 0xE8
  | .iny => 0xC8
  | .dex => 0xCA
  | .dey => 0x88
  | .pha => 0x48
  | .php => 0x08
  | .pla => 0x68
  | .plp => 0x28
  | .tsx => 0xBA
  | .txs => 0x9A
  | .jmpAbs _ => 0x4C
  | .jmpInd _ => 0x6C
  | .jsr _ => 0x20
  | .rts => 0x60
  | .brk _ => 0x00
  | .rti => 0x40
  | .bcc _ => 0x90
  | .bcs _ => 0xB0
  | .beq _ => 0xF0
  | .bmi _ => 0x30
  | .bne _ => 0xD0
  | .bpl _ => 0x10
  | .bvc _ => 0x50
  | .bvs _ => 0x70
  | .ldaIndX _ => 0xA1
  | .ldaZp _ => 0xA5
  | .ldaImm _ => 0xA9
  | .ldaAbs _ => 0xAD
  | .ldaIndY _ => 0xB1
  | .ldaZpX _ => 0xB5
  | .ldaAbsY _ => 0xB9
  | .ldaAbsX _ => 0xBD
  | .ldxImm _ => 0xA2
  | .ldxZp _ => 0xA6
  | .ldxAbs _ => 0xAE
  | .ldxZpY _ => 0xB6
  | .ldxAbsY _ => 0xBE
  | .ldyImm _ => 0xA0
  | .ldyZp _ => 0xA4
  | .ldyAbs _ => 0xAC
  | .ldyZpX _ => 0xB4
  | .ldyAbsX _ => 0xBC
  | .staIndX _ => 0x81
  | .staZp _ => 0x85
  | .staAbs _ => 0x8D
  | .staIndY _ => 0x91
  | .staZpX _ => 0x95
  | .staAbsY _ => 0x99
  | .staAbsX _ => 0x9D
  | .stxZp _ => 0x86
  | .stxAbs _ => 0x8E
  | .stxZpY _ => 0x96
  | .styZp _ => 0x84
  | .styAbs _ => 0x8C
  | .styZpX _ => 0x94
  | .tax => 0xAA
  | .tay => 0xA8
  | .txa => 0x8A
  | .tya => 0x98
  | .andIndX _ => 0x21
  | .andZp _ => 0x25
  | .andImm _ => 0x29
  | .andAbs _ => 0x2D
  | .andIndY _ => 0x31
  | .andZpX _ => 0x35
  | .andAbsY _ => 0x39
  | .andAbsX _ => 0x3D
  | .oraIndX _ => 0x01
  | .oraZp _ => 0x05
  | .oraImm _ => 0x09
  | .oraAbs _ => 0x0D
  | .oraIndY _ => 0x11
  | .oraZpX _ => 0x15
  | .oraAbsY _ => 0x19
  | .oraAbsX _ => 0x1D
  | .eorIndX _ => 0x41
  | .eorZp _ => 0x45
  | .eorImm _ => 0x49
  | .eorAbs _ => 0x4D
  | .eorIndY _ => 0x51
  | .eorZpX _ => 0x55
  | .eorAbsY _ => 0x59
  | .eorAbsX _ => 0x5D
  | .bitZp _ => 0x24
  | .bitAbs _ => 0x2C
  | .aslZp _ => 0x06
  | .aslAcc => 0x0A
  | .aslAbs _ => 0x0E
  | .aslZpX _ => 0x16
  | .aslAbsX _ => 0x1E
  | .lsrZp _ => 0x46
  | .lsrAcc => 0x4A
  | .lsrAbs _ => 0x4E
  | .lsrZpX _ => 0x56
  | .lsrAbsX _ => 0x5E
  | .rolZp _ => 0x26
  | .rolAcc => 0x2A
  | .rolAbs _ => 0x2E
  | .rolZpX _ => 0x36
  | .rolAbsX _ => 0x3E
  | .rorZp _ => 0x66
  | .rorAcc => 0x6A
  | .rorAbs _ => 0x6E
  | .rorZpX _ => 0x76
  | .rorAbsX _ => 0x7E
  | .clc => 0x18
  | .cld => 0xD8
  | .cli => 0x58
  | .clv => 0xB8
  | .sec => 0x38
  | .sed => 0xF8
  | .sei => 0x78
  | .nop => 0xEA

/-- The mnemonic of an instruction (R160). -/
def Instr.mnemonic : Instr → Mnemonic
  | .adcIndX _ | .adcZp _ | .adcImm _ | .adcAbs _ | .adcIndY _ | .adcZpX _ | .adcAbsY _ | .adcAbsX _ => .adc
  | .sbcIndX _ | .sbcZp _ | .sbcImm _ | .sbcAbs _ | .sbcIndY _ | .sbcZpX _ | .sbcAbsY _ | .sbcAbsX _ => .sbc
  | .cmpIndX _ | .cmpZp _ | .cmpImm _ | .cmpAbs _ | .cmpIndY _ | .cmpZpX _ | .cmpAbsY _ | .cmpAbsX _ => .cmp
  | .cpxImm _ | .cpxZp _ | .cpxAbs _ => .cpx
  | .cpyImm _ | .cpyZp _ | .cpyAbs _ => .cpy
  | .incZp _ | .incAbs _ | .incZpX _ | .incAbsX _ => .inc
  | .decZp _ | .decAbs _ | .decZpX _ | .decAbsX _ => .dec
  | .inx => .inx
  | .iny => .iny
  | .dex => .dex
  | .dey => .dey
  | .pha => .pha
  | .php => .php
  | .pla => .pla
  | .plp => .plp
  | .tsx => .tsx
  | .txs => .txs
  | .jmpAbs _ | .jmpInd _ => .jmp
  | .jsr _ => .jsr
  | .rts => .rts
  | .brk _ => .brk
  | .rti => .rti
  | .bcc _ => .bcc
  | .bcs _ => .bcs
  | .beq _ => .beq
  | .bmi _ => .bmi
  | .bne _ => .bne
  | .bpl _ => .bpl
  | .bvc _ => .bvc
  | .bvs _ => .bvs
  | .ldaIndX _ | .ldaZp _ | .ldaImm _ | .ldaAbs _ | .ldaIndY _ | .ldaZpX _ | .ldaAbsY _ | .ldaAbsX _ => .lda
  | .ldxImm _ | .ldxZp _ | .ldxAbs _ | .ldxZpY _ | .ldxAbsY _ => .ldx
  | .ldyImm _ | .ldyZp _ | .ldyAbs _ | .ldyZpX _ | .ldyAbsX _ => .ldy
  | .staIndX _ | .staZp _ | .staAbs _ | .staIndY _ | .staZpX _ | .staAbsY _ | .staAbsX _ => .sta
  | .stxZp _ | .stxAbs _ | .stxZpY _ => .stx
  | .styZp _ | .styAbs _ | .styZpX _ => .sty
  | .tax => .tax
  | .tay => .tay
  | .txa => .txa
  | .tya => .tya
  | .andIndX _ | .andZp _ | .andImm _ | .andAbs _ | .andIndY _ | .andZpX _ | .andAbsY _ | .andAbsX _ => .and
  | .oraIndX _ | .oraZp _ | .oraImm _ | .oraAbs _ | .oraIndY _ | .oraZpX _ | .oraAbsY _ | .oraAbsX _ => .ora
  | .eorIndX _ | .eorZp _ | .eorImm _ | .eorAbs _ | .eorIndY _ | .eorZpX _ | .eorAbsY _ | .eorAbsX _ => .eor
  | .bitZp _ | .bitAbs _ => .bit
  | .aslZp _ | .aslAcc | .aslAbs _ | .aslZpX _ | .aslAbsX _ => .asl
  | .lsrZp _ | .lsrAcc | .lsrAbs _ | .lsrZpX _ | .lsrAbsX _ => .lsr
  | .rolZp _ | .rolAcc | .rolAbs _ | .rolZpX _ | .rolAbsX _ => .rol
  | .rorZp _ | .rorAcc | .rorAbs _ | .rorZpX _ | .rorAbsX _ => .ror
  | .clc => .clc
  | .cld => .cld
  | .cli => .cli
  | .clv => .clv
  | .sec => .sec
  | .sed => .sed
  | .sei => .sei
  | .nop => .nop

/-- The operand bytes of an instruction (R145). -/
def Instr.operands : Instr → List Byte
  | .inx | .iny | .dex | .dey | .pha | .php | .pla | .plp | .tsx | .txs | .rts | .rti | .tax | .tay | .txa | .tya
    | .aslAcc | .lsrAcc | .rolAcc | .rorAcc | .clc | .cld | .cli | .clv | .sec | .sed | .sei | .nop => []
  | .adcIndX b | .adcZp b | .adcImm b | .adcIndY b | .adcZpX b | .sbcIndX b | .sbcZp b | .sbcImm b | .sbcIndY b
    | .sbcZpX b | .cmpIndX b | .cmpZp b | .cmpImm b | .cmpIndY b | .cmpZpX b | .cpxImm b | .cpxZp b | .cpyImm b
    | .cpyZp b | .incZp b | .incZpX b | .decZp b | .decZpX b | .brk b | .bcc b | .bcs b | .beq b | .bmi b | .bne b
    | .bpl b | .bvc b | .bvs b | .ldaIndX b | .ldaZp b | .ldaImm b | .ldaIndY b | .ldaZpX b | .ldxImm b | .ldxZp b
    | .ldxZpY b | .ldyImm b | .ldyZp b | .ldyZpX b | .staIndX b | .staZp b | .staIndY b | .staZpX b | .stxZp b
    | .stxZpY b | .styZp b | .styZpX b | .andIndX b | .andZp b | .andImm b | .andIndY b | .andZpX b | .oraIndX b
    | .oraZp b | .oraImm b | .oraIndY b | .oraZpX b | .eorIndX b | .eorZp b | .eorImm b | .eorIndY b | .eorZpX b
    | .bitZp b | .aslZp b | .aslZpX b | .lsrZp b | .lsrZpX b | .rolZp b | .rolZpX b | .rorZp b | .rorZpX b => [b]
  | .adcAbs w | .adcAbsY w | .adcAbsX w | .sbcAbs w | .sbcAbsY w | .sbcAbsX w | .cmpAbs w | .cmpAbsY w | .cmpAbsX w
    | .cpxAbs w | .cpyAbs w | .incAbs w | .incAbsX w | .decAbs w | .decAbsX w | .jmpAbs w | .jmpInd w | .jsr w
    | .ldaAbs w | .ldaAbsY w | .ldaAbsX w | .ldxAbs w | .ldxAbsY w | .ldyAbs w | .ldyAbsX w | .staAbs w | .staAbsY w
    | .staAbsX w | .stxAbs w | .styAbs w | .andAbs w | .andAbsY w | .andAbsX w | .oraAbs w | .oraAbsY w | .oraAbsX w
    | .eorAbs w | .eorAbsY w | .eorAbsX w | .bitAbs w | .aslAbs w | .aslAbsX w | .lsrAbs w | .lsrAbsX w | .rolAbs w
    | .rolAbsX w | .rorAbs w | .rorAbsX w => [w.setWidth 8, (w >>> 8).setWidth 8]

/-- The encoder: the bytes of an instruction, opcode first (R145). -/
def encode (i : Instr) : List Byte := i.opcode :: i.operands

/-- The length of an instruction in bytes: 1, 2 or 3 (R145). -/
def Instr.length (i : Instr) : Nat := (encode i).length

/-- The three bytes of an instruction whose bits are `w`, numbered as spec/opcode_table.json numbers them: `nbits` bits of
`w`, every bit above them 0, the first byte least significant (R65). -/
def tableByte (nbits w k : Nat) : Byte := BitVec.ofNat 8 (w % 2 ^ nbits / 256 ^ k)

/-- The instruction the decoder reads from an instruction whose bits are `w`. -/
def decodeTableWord (nbits w : Nat) : Option Instr :=
  match decode [tableByte nbits w 0, tableByte nbits w 1, tableByte nbits w 2] with
  | .ok (i, _) => some i
  | .error _ => none

end Sys2Proof
end

