-- ==== Sys2Proof/Machine/Fetch.lean ====
section
/-! DEFINITION. What a step does around an instruction's meaning: the fetch through the Bus (rules R140 to R142), the fault
of an unmapped opcode (R402), and the draw numbers a step takes (log 13; DESIGN CHOICE, safe). -/

namespace Sys2Proof.Machine

/-- The bytes at PC, PC + 1 and PC + 2, each read through the Bus (R140, R145, R133). Reads have no effect (R52), so
reading an operand byte the instruction does not have is not an access of the block (log 10; DEDUCED, safe). -/
def State.fetchBytes (s : State) : List Byte := [s.read s.pc, s.read (s.pc + 1), s.read (s.pc + 2)]

/-- The instruction at PC; none where the opcode is unmapped (R141). -/
def State.fetchInstr (s : State) : Option Instr := instrAt (s.read s.pc) (s.read (s.pc + 1)) (s.read (s.pc + 2))

/-- The fault of a fetched opcode without a table entry: the opcode and the address it was fetched from (R402). -/
def State.invalidOpcode (s : State) : Fault := .invalidOpcode (s.read s.pc) s.pc

/-- The end of a step: the next step's draws are new ones. -/
def endStep : Answer → Answer
  | .next t => .next t.nextDraw
  | .fault f => .fault f
  | .refused r => .refused r

/-- What a fault leaves: it is recorded, and PC is past the fetched opcode byte; nothing else changes (R401, R402). A
fault already recorded stays (R31). -/
def State.afterFault (s : State) (f : Fault) : State :=
  match s.fault with
  | some _ => s
  | none => ((s.advance 1).setFault (some f)).nextDraw

/-- The state with an instruction word of spec/opcode_table.json where the next step fetches it, and no fault recorded
(log 12; DESIGN CHOICE, safe). -/
def State.placeTableWord (s : State) (nbits w : Nat) : State :=
  (s.placeInstr (tableByte nbits w 0) (tableByte nbits w 1) (tableByte nbits w 2)).setFault none

end Sys2Proof.Machine
end

