-- ==== Sys2Proof/Machine/Step.lean ====
section
/-! DEFINITION. The CPU's `step()` (rules R140 to R144 of 30_encoding.md, R401 and R402 of 60_exceptions.md). -/

namespace Sys2Proof.Machine

/-- One whole instruction. The fetch takes one draw number and the instruction the next, so no two reads of a step share a
draw (log 6, DEDUCED, safe; log 13, DESIGN CHOICE, safe). A recorded fault is answered again: the faulted state is
quiescent (R401; log 8, DESIGN CHOICE, safe). The base cycle count `step()` returns is `hostStep`'s of Machine/HostOps.lean (log 1, DESIGN CHOICE, safe). -/
def step (s : State) : Host.Outcome State Fault Refusal :=
  match s.fault with
  | some f => .fault f
  | none =>
    match s.fetchInstr with
    | none => .fault s.invalidOpcode
    | some i => endStep (exec i s.nextDraw)

/-- `s` with the given instruction word where `step` fetches its next instruction (log 12, DESIGN CHOICE, safe). -/
def State.withFetchWord (s : State) (nbits w : Nat) : State := s.placeTableWord nbits w

end Sys2Proof.Machine
end

