-- ==== Sys2Proof/WellFormed.lean ====
section
/-! DEFINITION. Well-formedness: of an instruction term, and of a cartridge (the launch premises, rules R10 and R405 of
00_scope.md and 60_exceptions.md, R80 of 20_memory.md). -/

namespace Sys2Proof

/-- Every instruction term is well-formed: an operand is a typed byte or 16-bit value, and no operand value is reserved
(R162 of 30_encoding.md). There is no check to fail. -/
def Instr.wf (_ : Instr) : Bool := true

/-- PRG size: a non-zero multiple of 16384 (R10, D16). -/
def Cartridge.prgSizeOk (c : Cartridge) : Bool := decide (c.prgRomSize ≠ 0 ∧ c.prgRomSize % 16384 = 0)

/-- CHR size: 0 or a multiple of 8192 (R10, D16). -/
def Cartridge.chrSizeOk (c : Cartridge) : Bool := decide (c.chrDataSize % 8192 = 0)

/-- NROM has 1 or 2 PRG banks of 16 KB (R80, D17). -/
def Cartridge.nromSizeOk (c : Cartridge) : Bool :=
  decide (c.mapperNumber = 0 → c.prgRomSize = 16384 ∨ c.prgRomSize = 32768)

/-- The PRG buffer has the length its header states (R405): canonical, every index inside. -/
def Cartridge.prgRomOk (c : Cartridge) : Bool := Machine.Mem.romWf c.prgRomSize c.prgRom

/-- The CHR buffer has the length its header states (R405): canonical, every index inside. -/
def Cartridge.chrRomOk (c : Cartridge) : Bool := Machine.Mem.romWf c.chrDataSize c.chrRom

/-- The launch premises (R10, R80, R405). -/
def Cartridge.wf (c : Cartridge) : Bool :=
  c.prgSizeOk && c.chrSizeOk && c.nromSizeOk && c.prgRomOk && c.chrRomOk

end Sys2Proof
end

