-- ==== Sys2Proof/Machine/HostOps.lean ====
section
/-! DEFINITION. The host's operations (the table of rule R470 of 70_reset_and_hazards.md): construct, reset, step with its
cycle count, clock, raw read and write, and the mapper's video-side and scanline operations. "Observe trace" is the field
`trace`. Each is synchronous and never overlaps another (R131); none is part of `step` (log 14; DESIGN CHOICE, unsafe). -/

namespace Sys2Proof.Machine

/-- The block before its CPU is reset: the mapper in its reset state, every array a draw, an empty trace (R450). The CPU
registers have no value yet; `State.cpuReset` gives each one. -/
def unresetState (c : Cartridge) (m : Mapper) : State :=
  { State.reset with cart := c, mapper := m, mirroring := headerMirroring c }

/-- `construct` (R450, R470): the mapper is selected (R72, R403), the launch premises hold (R405, R406), the CPU is reset
once (R451). The order of the two looks is the model's reading (log 11; DEDUCED, safe). -/
def construct (c : Cartridge) : Answer :=
  match mapperFor c.mapperNumber with
  | none => .fault (.unsupportedMapper c.mapperNumber)
  | some m => if c.wf then .next (unresetState c m).cpuReset else .refused .cartridgePremise

/-- `step()` as the host sees it: the state it leaves, and the base cycle count or the fault (R144, R401, R461). It reads
and writes no cycle counter (K5). -/
def hostStep (s : State) : State × Host.Outcome Nat Fault Refusal :=
  match step s with
  | .next t => (t, .next (baseCycles (s.read s.pc)))
  | .fault f => (s.afterFault f, .fault f)
  | .refused r => (s, .refused r)

/-- `clock()` (R460): an instruction starts when no cycle is pending; a faulted state is not clocked (R401). -/
def clock (s : State) : State × Host.Outcome Unit Fault Refusal :=
  match s.fault with
  | some f => (s, .fault f)
  | none =>
    if s.cyclesRemaining = 0 then
      match hostStep s with
      | (t, .next n) => (t.setCyclesRemaining (n - 1), .next ())
      | (t, .fault f) => (t, .fault f)
      | (t, .refused r) => (t, .refused r)
    else (s.setCyclesRemaining (s.cyclesRemaining - 1), .next ())

/-- Raw `read(address)` (R69): `MemRead` of the address masked to 16 bits; the draw it may take is its own
(log 6, DEDUCED, safe; log 17, DESIGN CHOICE, safe). -/
def hostRead (s : State) (address : Int) : State × Byte := (s.nextDraw, s.read (BitVec.ofInt 16 address))

/-- Raw `write(address, data)` (R53, R69): `MemWrite`; data outside 0..255 is refused (D15). -/
def hostWrite (s : State) (address data : Int) : Answer :=
  if 0 ≤ data ∧ data ≤ 255 then .next (s.write (BitVec.ofInt 16 address) (BitVec.ofInt 8 data))
  else .refused .hostDataOutOfRange

/-- The CHR byte at an index (R78): CHR-RAM, its draw where nothing has written; or CHR-ROM. -/
def State.chrByte (s : State) (i : Nat) : Byte :=
  if chrIsRam s.cart then (Mem.lookup i s.chrRam).getD (Config.chrRamInit s.cartRamDraw i)
  else (Mem.lookup i s.cart.chrRom).getD blankByte

/-- The mapper's `ppuRead(a)` (R75). -/
def ppuRead (s : State) (a : Int) : Host.Outcome Byte Fault Refusal :=
  if 0 ≤ a ∧ a < 0x2000 then .next (s.chrByte (chrIndex s.cart s.mapper a.toNat)) else .refused .chrAddressOutOfRange

/-- The mapper's `ppuWrite(a, v)`: it takes effect when CHR is RAM (R75). -/
def ppuWrite (s : State) (a : Int) (v : Byte) : Answer :=
  if 0 ≤ a ∧ a < 0x2000 then
    .next (if chrIsRam s.cart then s.setChrRam (Mem.put (chrIndex s.cart s.mapper a.toNat) v s.chrRam) else s)
  else .refused .chrAddressOutOfRange

/-- The mapper's `getMirroringMode()` (R74). -/
def getMirroringMode (s : State) : Mirroring := s.mirroring

/-- The mapper's `onScanline()`: whether an interrupt is pending (R79, R119). It reaches the host only (R120, R410). -/
def onScanline (s : State) : State × Bool :=
  match s.mapper with
  | .nrom => (s, false)
  | .mmc1 _ => (s, false)
  | .mmc3 r => (s.setMapper (.mmc3 (mmc3Scanline r)), (mmc3Scanline r).irqPending)

/-- The mapper's `reset()` (R84, R106, R122): its registers and mirroring as at construction; PRG-RAM and CHR-RAM become
a new draw (R76, R78; log 5; DEDUCED, safe). -/
def mapperReset (s : State) : State :=
  { s with
    mapper := mapperPowerOn s.mapper
    mirroring := headerMirroring s.cart
    prgRam := []
    chrRam := []
    cartRamDraw := s.cartRamDraw + 1 }

end Sys2Proof.Machine
end

