-- ==== Sys2Proof/Safety.lean ====
section
/-! DEFINITION. What the states of a run have in common (the invariant), and the spec's own tables of what each instruction
writes (rules R21 and R26 of 10_state.md, and the stores of the instruction rules) and costs (R461), in the terms the
claims use. -/

namespace Sys2Proof.Machine

/-- The live P: bit 5 reads 1 and bit 4 is 0 (R25 of 10_state.md). -/
def statusOk (p : Byte) : Bool := p.getLsbD 5 && !p.getLsbD 4

/-- The mapper's variant is the one its number selects (R72 of 20_memory.md). -/
def variantOk (c : Cartridge) : Mapper → Bool
  | .nrom => c.mapperNumber == 0
  | .mmc1 _ => c.mapperNumber == 1
  | .mmc3 _ => c.mapperNumber == 4

/-- The invariant: legal status bits (R25), canonical storages (log 9), a cartridge that meets the launch premises
(R405), its own mapper (R72), and a mirroring mode some rule produces (R74, D31). -/
def State.Inv (s : State) : Prop :=
  statusOk s.p = true ∧ Memory.wf s = true ∧ s.cart.wf = true ∧ variantOk s.cart s.mapper = true ∧
    s.mirroring ≠ .fourScreen

/-- Whether the instruction writes A (the table of R21). -/
def writesA (i : Instr) : Bool :=
  [Mnemonic.lda, .pla, .txa, .tya, .adc, .sbc, .and, .ora, .eor].contains i.mnemonic ||
    [Instr.aslAcc, .lsrAcc, .rolAcc, .rorAcc].contains i

/-- Whether the instruction writes X (the table of R21). -/
def writesX (i : Instr) : Bool := [Mnemonic.ldx, .tax, .tsx, .inx, .dex].contains i.mnemonic

/-- Whether the instruction writes Y (the table of R21). -/
def writesY (i : Instr) : Bool := [Mnemonic.ldy, .tay, .iny, .dey].contains i.mnemonic

/-- Whether the instruction writes SP (R23): TXS, and the pushes and pops. -/
def writesSp (i : Instr) : Bool :=
  [Mnemonic.txs, .pha, .php, .pla, .plp, .jsr, .rts, .brk, .rti].contains i.mnemonic

/-- The instructions the table of R26 lists for Z, and for N, as a result. -/
def resultMnemonics : List Mnemonic :=
  [.adc, .sbc, .cmp, .cpx, .cpy, .and, .ora, .eor, .bit, .asl, .lsr, .rol, .ror, .inc, .dec, .inx,
    .iny, .dex, .dey, .lda, .ldx, .ldy, .tax, .tay, .txa, .tya, .tsx, .pla]

/-- The instructions the table of R26 lists as writers of a flag; none writes B or U. -/
def flagWriters : Flag → List Mnemonic
  | .carry => [.adc, .sbc, .cmp, .cpx, .cpy, .asl, .lsr, .rol, .ror, .clc, .sec, .plp, .rti]
  | .zero => resultMnemonics ++ [.plp, .rti]
  | .interruptDisable => [.sei, .cli, .brk, .plp, .rti]
  | .decimal => [.sed, .cld, .plp, .rti]
  | .breakCommand => []
  | .unused => []
  | .overflow => [.adc, .sbc, .bit, .clv, .plp, .rti]
  | .negative => resultMnemonics ++ [.plp, .rti]

/-- Whether the instruction writes the flag (the table of R26). -/
def writesFlag (i : Instr) (f : Flag) : Bool := (flagWriters f).contains i.mnemonic

/-- The addresses the instruction stores to: the effective address of a storing form (R207, R208, R263 to R265, R304), the
stack bytes of a push (R60, R62, R220, R221, R241, R243); none for every other form. -/
def storedAddrs (i : Instr) (s : State) : List Word :=
  match i with
  | .incZp b => [eaZp b s]
  | .incAbs w => [eaAbs w s]
  | .incZpX b => [eaZpX b s]
  | .incAbsX w => [eaAbsX w s]
  | .decZp b => [eaZp b s]
  | .decAbs w => [eaAbs w s]
  | .decZpX b => [eaZpX b s]
  | .decAbsX w => [eaAbsX w s]
  | .staIndX b => [eaIndX b s]
  | .staZp b => [eaZp b s]
  | .staAbs w => [eaAbs w s]
  | .staIndY b => [eaIndY b s]
  | .staZpX b => [eaZpX b s]
  | .staAbsY w => [eaAbsY w s]
  | .staAbsX w => [eaAbsX w s]
  | .stxZp b => [eaZp b s]
  | .stxAbs w => [eaAbs w s]
  | .stxZpY b => [eaZpY b s]
  | .styZp b => [eaZp b s]
  | .styAbs w => [eaAbs w s]
  | .styZpX b => [eaZpX b s]
  | .aslZp b => [eaZp b s]
  | .aslAbs w => [eaAbs w s]
  | .aslZpX b => [eaZpX b s]
  | .aslAbsX w => [eaAbsX w s]
  | .lsrZp b => [eaZp b s]
  | .lsrAbs w => [eaAbs w s]
  | .lsrZpX b => [eaZpX b s]
  | .lsrAbsX w => [eaAbsX w s]
  | .rolZp b => [eaZp b s]
  | .rolAbs w => [eaAbs w s]
  | .rolZpX b => [eaZpX b s]
  | .rolAbsX w => [eaAbsX w s]
  | .rorZp b => [eaZp b s]
  | .rorAbs w => [eaAbs w s]
  | .rorZpX b => [eaZpX b s]
  | .rorAbsX w => [eaAbsX w s]
  | .pha | .php => [stackAddr s.sp]
  | .jsr _ => [stackAddr s.sp, stackAddr (s.sp - 1)]
  | .brk _ => [stackAddr s.sp, stackAddr (s.sp - 1), stackAddr (s.sp - 2)]
  | .adcIndX _ | .adcZp _ | .adcImm _ | .adcAbs _ | .adcIndY _ | .adcZpX _ | .adcAbsY _ | .adcAbsX _
    | .sbcIndX _ | .sbcZp _ | .sbcImm _ | .sbcAbs _ | .sbcIndY _ | .sbcZpX _ | .sbcAbsY _ | .sbcAbsX _
    | .cmpIndX _ | .cmpZp _ | .cmpImm _ | .cmpAbs _ | .cmpIndY _ | .cmpZpX _ | .cmpAbsY _ | .cmpAbsX _
    | .cpxImm _ | .cpxZp _ | .cpxAbs _ | .cpyImm _ | .cpyZp _ | .cpyAbs _ | .inx | .iny | .dex | .dey | .pla
    | .plp | .tsx | .txs | .jmpAbs _ | .jmpInd _ | .rts | .rti | .bcc _ | .bcs _ | .beq _ | .bmi _ | .bne _
    | .bpl _ | .bvc _ | .bvs _ | .ldaIndX _ | .ldaZp _ | .ldaImm _ | .ldaAbs _ | .ldaIndY _ | .ldaZpX _
    | .ldaAbsY _ | .ldaAbsX _ | .ldxImm _ | .ldxZp _ | .ldxAbs _ | .ldxZpY _ | .ldxAbsY _ | .ldyImm _ | .ldyZp _
    | .ldyAbs _ | .ldyZpX _ | .ldyAbsX _ | .tax | .tay | .txa | .tya | .andIndX _ | .andZp _ | .andImm _
    | .andAbs _ | .andIndY _ | .andZpX _ | .andAbsY _ | .andAbsX _ | .oraIndX _ | .oraZp _ | .oraImm _
    | .oraAbs _ | .oraIndY _ | .oraZpX _ | .oraAbsY _ | .oraAbsX _ | .eorIndX _ | .eorZp _ | .eorImm _
    | .eorAbs _ | .eorIndY _ | .eorZpX _ | .eorAbsY _ | .eorAbsX _ | .bitZp _ | .bitAbs _ | .aslAcc | .lsrAcc
    | .rolAcc | .rorAcc | .clc | .cld | .cli | .clv | .sec | .sed | .sei | .nop => []

/-- The base cycle counts: the table of R461 of 70_reset_and_hazards.md, column by column. -/
def tableCycles : Instr → Nat
  -- impl
  | .inx | .iny | .dex | .dey | .tsx | .txs | .tax | .tay | .txa | .tya | .clc | .cld | .cli | .clv | .sec
    | .sed | .sei | .nop => 2
  | .pha | .php => 3
  | .pla | .plp => 4
  | .rts | .rti => 6
  -- A
  | .aslAcc | .lsrAcc | .rolAcc | .rorAcc => 2
  -- #
  | .adcImm _ | .sbcImm _ | .cmpImm _ | .cpxImm _ | .cpyImm _ | .ldaImm _ | .ldxImm _ | .ldyImm _ | .andImm _
    | .oraImm _ | .eorImm _ => 2
  | .brk _ => 7
  -- zp
  | .adcZp _ | .sbcZp _ | .cmpZp _ | .cpxZp _ | .cpyZp _ | .ldaZp _ | .ldxZp _ | .ldyZp _ | .staZp _ | .stxZp _
    | .styZp _ | .andZp _ | .oraZp _ | .eorZp _ | .bitZp _ => 3
  | .incZp _ | .decZp _ | .aslZp _ | .lsrZp _ | .rolZp _ | .rorZp _ => 5
  -- zp,X
  | .adcZpX _ | .sbcZpX _ | .cmpZpX _ | .ldaZpX _ | .ldyZpX _ | .staZpX _ | .styZpX _ | .andZpX _ | .oraZpX _
    | .eorZpX _ => 4
  | .incZpX _ | .decZpX _ | .aslZpX _ | .lsrZpX _ | .rolZpX _ | .rorZpX _ => 6
  -- zp,Y
  | .ldxZpY _ | .stxZpY _ => 4
  -- abs
  | .jmpAbs _ => 3
  | .adcAbs _ | .sbcAbs _ | .cmpAbs _ | .cpxAbs _ | .cpyAbs _ | .ldaAbs _ | .ldxAbs _ | .ldyAbs _ | .staAbs _
    | .stxAbs _ | .styAbs _ | .andAbs _ | .oraAbs _ | .eorAbs _ | .bitAbs _ => 4
  | .incAbs _ | .decAbs _ | .jsr _ | .aslAbs _ | .lsrAbs _ | .rolAbs _ | .rorAbs _ => 6
  -- abs,X
  | .adcAbsX _ | .sbcAbsX _ | .cmpAbsX _ | .ldaAbsX _ | .ldyAbsX _ | .andAbsX _ | .oraAbsX _ | .eorAbsX _ => 4
  | .staAbsX _ => 5
  | .incAbsX _ | .decAbsX _ | .aslAbsX _ | .lsrAbsX _ | .rolAbsX _ | .rorAbsX _ => 7
  -- abs,Y
  | .adcAbsY _ | .sbcAbsY _ | .cmpAbsY _ | .ldaAbsY _ | .ldxAbsY _ | .andAbsY _ | .oraAbsY _ | .eorAbsY _ => 4
  | .staAbsY _ => 5
  -- (ind)
  | .jmpInd _ => 5
  -- (zp,X)
  | .adcIndX _ | .sbcIndX _ | .cmpIndX _ | .ldaIndX _ | .staIndX _ | .andIndX _ | .oraIndX _ | .eorIndX _ => 6
  -- (zp),Y
  | .adcIndY _ | .sbcIndY _ | .cmpIndY _ | .ldaIndY _ | .andIndY _ | .oraIndY _ | .eorIndY _ => 5
  | .staIndY _ => 6
  -- rel
  | .bcc _ | .bcs _ | .beq _ | .bmi _ | .bne _ | .bpl _ | .bvc _ | .bvs _ => 2

/-- The state after `n` calls (R119). -/
def afterScanlines : Nat → State → State
  | 0, s => s
  | n + 1, s => afterScanlines n (onScanline s).1

end Sys2Proof.Machine
end

