-- ==== Sys2Proof/Certificates/Slice0/Obligations.lean ====
section
/-! DEFINITION. The statements for the provers, taken from the numbered rules of spec/. The first part names the shapes the
statements share: what it is to complete, what P becomes, and for each format of rule R145 its encoding and its
completion together. -/

namespace Sys2Proof.Claims

open Sys2Proof.Machine

/-- The answer is a next state with the property. -/
def Done (r : Answer) (Q : State → Prop) : Prop := ∃ t, r = .next t ∧ Q t

/-- P becomes `new`: N, V, D, I, Z, C as given, bits 5 and 4 as in `old` (the layout of R24). -/
def Status (old new : Byte) (n v d i z c : Bool) : Prop :=
  new.getLsbD 7 = n ∧ new.getLsbD 6 = v ∧ new.getLsbD 5 = old.getLsbD 5 ∧ new.getLsbD 4 = old.getLsbD 4 ∧
    new.getLsbD 3 = d ∧ new.getLsbD 2 = i ∧ new.getLsbD 1 = z ∧ new.getLsbD 0 = c

/-- P after `setZN(r)` and nothing else (R29). -/
def StatusZN (old new r : Byte) : Prop :=
  Status old new (r.getLsbD 7) (old.getLsbD 6) (old.getLsbD 3) (old.getLsbD 2) (r == 0) (old.getLsbD 0)

/-- P after `setZN(r)` and a write of C. -/
def StatusZNC (old new r : Byte) (c : Bool) : Prop :=
  Status old new (r.getLsbD 7) (old.getLsbD 6) (old.getLsbD 3) (old.getLsbD 2) (r == 0) c

/-- P after writes of C and V and `setZN(r)`. -/
def StatusZNCV (old new r : Byte) (c v : Bool) : Prop :=
  Status old new (r.getLsbD 7) v (old.getLsbD 3) (old.getLsbD 2) (r == 0) c

/-- A one-byte instruction: its encoding, and that it completes from every state. -/
def OneByte (op : Byte) (i : Instr) (Q : State → State → Prop) : Prop :=
  (∀ rest, decode (op :: rest) = .ok (i, rest)) ∧ ∀ s, Done (exec i s) (Q s)

/-- An instruction with an operand byte used as it is (Immediate, Relative, BRK). -/
def ByteForm (op : Byte) (mk : Byte → Instr) (Q : State → Byte → State → Prop) : Prop :=
  ∀ b, (∀ rest, decode (op :: b :: rest) = .ok (mk b, rest)) ∧ ∀ s, Done (exec (mk b) s) (Q s b)

/-- A two-byte instruction with a memory operand at `ea`; `Q` also takes the length. -/
def Mem2 (op : Byte) (mk : Byte → Instr) (ea : Byte → State → Word) (Q : State → Word → Word → State → Prop) : Prop :=
  ∀ b, (∀ rest, decode (op :: b :: rest) = .ok (mk b, rest)) ∧ ∀ s, Done (exec (mk b) s) (Q s (ea b s) 2)

/-- A three-byte instruction with a memory operand or a target at `ea`; the operand's low byte comes first. -/
def Mem3 (op : Byte) (mk : Word → Instr) (ea : Word → State → Word) (Q : State → Word → Word → State → Prop) : Prop :=
  ∀ lo hi : Byte, (∀ rest, decode (op :: lo :: hi :: rest) = .ok (mk (hi ++ lo : BitVec 16), rest)) ∧
    ∀ s, Done (exec (mk (hi ++ lo : BitVec 16)) s) (Q s (ea (hi ++ lo : BitVec 16) s) 3)

/-- A rule about the operand byte, used at an Immediate operand. -/
def AtImm (K : State → Byte → Word → State → Prop) (s : State) (b : Byte) (t : State) : Prop := K s b 2 t

/-- A rule about the operand byte, used at the byte read from the effective address (`load()`, R158). -/
def AtMem (K : State → Byte → Word → State → Prop) (s : State) (ea n : Word) (t : State) : Prop := K s (s.read ea) n t

/-- The stack byte that SP = `sp` designates (R23). -/
def stackByte (sp : Byte) : Word := (0x0100 : Word) + sp.setWidth 16

/-- The byte of PRG-ROM at an index: an unlisted one is 0xFF (log 3). -/
def romByte (c : Cartridge) (i : Nat) : Byte := (Mem.lookup i c.prgRom).getD 0xFF

/-- ADC (R201). -/
def AdcRule (s : State) (m : Byte) (n : Word) (t : State) : Prop :=
  let sum := s.a.toNat + m.toNat + (s.p.getLsbD 0).toNat
  let r : Byte := BitVec.ofNat 8 (sum % 256)
  t = { s with a := r, p := t.p, pc := s.pc + n } ∧
    StatusZNCV s.p t.p r (decide (sum > 255)) (((s.a ^^^ r) &&& (m ^^^ r) &&& 0x80) != 0)

/-- SBC (R202). -/
def SbcRule (s : State) (m : Byte) (n : Word) (t : State) : Prop :=
  let diff : Int := (s.a.toNat : Int) - m.toNat - (1 - (s.p.getLsbD 0).toNat)
  let r : Byte := BitVec.ofInt 8 diff
  t = { s with a := r, p := t.p, pc := s.pc + n } ∧
    StatusZNCV s.p t.p r (decide (diff ≥ 0)) (((s.a ^^^ r) &&& ((m ^^^ 0xFF) ^^^ r) &&& 0x80) != 0)

/-- `compare(reg, m)` (R203). -/
def CompareRule (reg : State → Byte) (s : State) (m : Byte) (n : Word) (t : State) : Prop :=
  t = { s with p := t.p, pc := s.pc + n } ∧
    Status s.p t.p ((reg s - m).getLsbD 7) (s.p.getLsbD 6) (s.p.getLsbD 3) (s.p.getLsbD 2) (reg s == m)
      (decide (m.toNat ≤ (reg s).toNat))

/-- A load into A (R260), X (R261) or Y (R262). -/
def LdaRule (s : State) (m : Byte) (n : Word) (t : State) : Prop :=
  t = { s with a := m, p := t.p, pc := s.pc + n } ∧ StatusZN s.p t.p m

@[inherit_doc LdaRule]
def LdxRule (s : State) (m : Byte) (n : Word) (t : State) : Prop :=
  t = { s with x := m, p := t.p, pc := s.pc + n } ∧ StatusZN s.p t.p m

@[inherit_doc LdaRule]
def LdyRule (s : State) (m : Byte) (n : Word) (t : State) : Prop :=
  t = { s with y := m, p := t.p, pc := s.pc + n } ∧ StatusZN s.p t.p m

/-- A logic operation on A (R300 to R302). -/
def LogicRule (f : Byte → Byte → Byte) (s : State) (m : Byte) (n : Word) (t : State) : Prop :=
  t = { s with a := f s.a m, p := t.p, pc := s.pc + n } ∧ StatusZN s.p t.p (f s.a m)

/-- BIT (R303). -/
def BitRule (s : State) (m : Byte) (n : Word) (t : State) : Prop :=
  t = { s with p := t.p, pc := s.pc + n } ∧
    Status s.p t.p (m.getLsbD 7) (m.getLsbD 6) (s.p.getLsbD 3) (s.p.getLsbD 2) ((s.a &&& m) == 0) (s.p.getLsbD 0)

/-- A store of a register: one write at the effective address, no flag (R263 to R265). -/
def StoreRule (reg : State → Byte) (s : State) (ea n : Word) (t : State) : Prop :=
  t = { s.write ea (reg s) with pc := s.pc + n }

/-- INC and DEC: one write of the changed byte, Z and N (R207, R208). -/
def StepMemRule (f : Byte → Byte) (s : State) (ea n : Word) (t : State) : Prop :=
  t = { s.write ea (f (s.read ea)) with p := t.p, pc := s.pc + n } ∧ StatusZN s.p t.p (f (s.read ea))

/-- A shift or rotate, as arithmetic: the result and the carry out, from the operand and the carry in (R305 to R308). -/
structure ShiftSpec where
  result : Nat → Nat → Nat
  carry : Nat → Nat

/-- ASL, LSR, ROL, ROR (R305 to R308) on an operand v and a carry c: 2v, v/2, 2v + c, v/2 + 128c, each modulo 256. -/
def aslSpec : ShiftSpec := ⟨fun v _ => 2 * v, fun v => v / 128⟩
@[inherit_doc aslSpec]
def lsrSpec : ShiftSpec := ⟨fun v _ => v / 2, fun v => v % 2⟩
@[inherit_doc aslSpec]
def rolSpec : ShiftSpec := ⟨fun v c => 2 * v + c, fun v => v / 128⟩
@[inherit_doc aslSpec]
def rorSpec : ShiftSpec := ⟨fun v c => v / 2 + 128 * c, fun v => v % 2⟩

/-- The byte a shift leaves. -/
def shiftedByte (f : ShiftSpec) (s : State) (v : Byte) : Byte :=
  BitVec.ofNat 8 (f.result v.toNat (s.p.getLsbD 0).toNat)

/-- The memory form of a shift or rotate: one read, one write (R304). -/
def ShiftMemRule (f : ShiftSpec) (s : State) (ea n : Word) (t : State) : Prop :=
  t = { s.write ea (shiftedByte f s (s.read ea)) with p := t.p, pc := s.pc + n } ∧
    StatusZNC s.p t.p (shiftedByte f s (s.read ea)) (f.carry (s.read ea).toNat == 1)

/-- The accumulator form of a shift or rotate (R304). -/
def ShiftAccRule (f : ShiftSpec) (s t : State) : Prop :=
  t = { s with a := shiftedByte f s s.a, p := t.p, pc := s.pc + 1 } ∧
    StatusZNC s.p t.p (shiftedByte f s s.a) (f.carry s.a.toNat == 1)

/-- The five forms of a shift or rotate, in the order A, zp, zp,X, abs, abs,X. -/
def ShiftForms (f : ShiftSpec) (oA oZ oZX oAb oAbX : Byte) (acc : Instr) (zp zpX : Byte → Instr)
    (ab abX : Word → Instr) : Prop :=
  OneByte oA acc (ShiftAccRule f) ∧ Mem2 oZ zp eaZp (ShiftMemRule f) ∧ Mem2 oZX zpX eaZpX (ShiftMemRule f) ∧
    Mem3 oAb ab eaAbs (ShiftMemRule f) ∧ Mem3 oAbX abX eaAbsX (ShiftMemRule f)

/-- A register gets a new value and Z, N follow it; the rest of the frame is in `f`, which sets the register. -/
def RegisterRule (f : State → State) (v : State → Byte) (s t : State) : Prop :=
  t = { f s with p := t.p, pc := s.pc + 1 } ∧ StatusZN s.p t.p (v s)

/-- A one-byte instruction that writes P alone. -/
def FlagRule (Q : State → Byte → Prop) (s t : State) : Prop := t = { s with p := t.p, pc := s.pc + 1 } ∧ Q s t.p

/-- A conditional branch (R245): the offset is signed and counts from the next instruction. -/
def BranchRule (cond : Byte → Bool) (s : State) (off : Byte) (t : State) : Prop :=
  t = { s with pc := if cond s.p then s.pc + 2 + off.signExtend 16 else s.pc + 2 }

/-- The MMC3 registers `r` with the interrupt state of `q`: latch, counter, reload request, enable, pending (R117 to R120). -/
def withInterruptOf (r q : Mmc3) : Mmc3 :=
  { r with
    irqLatch := q.irqLatch
    irqCounter := q.irqCounter
    irqReload := q.irqReload
    irqEnabled := q.irqEnabled
    irqPending := q.irqPending }

end Sys2Proof.Claims

open Sys2Proof Sys2Proof.Machine Sys2Proof.Claims

/-- ADC adds the operand and the carry, in all eight addressing modes. Cites R201. -/
def Obligations.AdcAddsWithCarryInEveryMode : Prop :=
  ByteForm 0x69 .adcImm (AtImm AdcRule) ∧
    Mem2 0x65 .adcZp eaZp (AtMem AdcRule) ∧
    Mem2 0x75 .adcZpX eaZpX (AtMem AdcRule) ∧
    Mem3 0x6D .adcAbs eaAbs (AtMem AdcRule) ∧
    Mem3 0x7D .adcAbsX eaAbsX (AtMem AdcRule) ∧
    Mem3 0x79 .adcAbsY eaAbsY (AtMem AdcRule) ∧
    Mem2 0x61 .adcIndX eaIndX (AtMem AdcRule) ∧
    Mem2 0x71 .adcIndY eaIndY (AtMem AdcRule)

/-- SBC subtracts the operand and the borrow, in all eight addressing modes. Cites R202. -/
def Obligations.SbcSubtractsWithBorrowInEveryMode : Prop :=
  ByteForm 0xE9 .sbcImm (AtImm SbcRule) ∧
    Mem2 0xE5 .sbcZp eaZp (AtMem SbcRule) ∧
    Mem2 0xF5 .sbcZpX eaZpX (AtMem SbcRule) ∧
    Mem3 0xED .sbcAbs eaAbs (AtMem SbcRule) ∧
    Mem3 0xFD .sbcAbsX eaAbsX (AtMem SbcRule) ∧
    Mem3 0xF9 .sbcAbsY eaAbsY (AtMem SbcRule) ∧
    Mem2 0xE1 .sbcIndX eaIndX (AtMem SbcRule) ∧
    Mem2 0xF1 .sbcIndY eaIndY (AtMem SbcRule)

/-- V of ADC and SBC is two's-complement overflow. Cites R200, R201, R202. -/
def Obligations.OverflowIsSignedOverflow : Prop :=
  ∀ (s : State) (m : Byte),
    Done (exec (.adcImm m) s) (fun t =>
      (t.p.getLsbD 6 = true ↔
        (s.a.toInt + m.toInt + (s.p.getLsbD 0).toNat < -128 ∨ 127 < s.a.toInt + m.toInt + (s.p.getLsbD 0).toNat))) ∧
    Done (exec (.sbcImm m) s) (fun t =>
      (t.p.getLsbD 6 = true ↔
        (s.a.toInt - m.toInt - (1 - (s.p.getLsbD 0).toNat) < -128 ∨
          127 < s.a.toInt - m.toInt - (1 - (s.p.getLsbD 0).toNat))))

/-- CMP, CPX and CPY compare a register with the operand, in every mode. Cites R203, R204, R205, R206. -/
def Obligations.ComparesWriteCarryZeroNegativeOnly : Prop :=
  ByteForm 0xC9 .cmpImm (AtImm (CompareRule (fun s => s.a))) ∧
    Mem2 0xC5 .cmpZp eaZp (AtMem (CompareRule (fun s => s.a))) ∧
    Mem2 0xD5 .cmpZpX eaZpX (AtMem (CompareRule (fun s => s.a))) ∧
    Mem3 0xCD .cmpAbs eaAbs (AtMem (CompareRule (fun s => s.a))) ∧
    Mem3 0xDD .cmpAbsX eaAbsX (AtMem (CompareRule (fun s => s.a))) ∧
    Mem3 0xD9 .cmpAbsY eaAbsY (AtMem (CompareRule (fun s => s.a))) ∧
    Mem2 0xC1 .cmpIndX eaIndX (AtMem (CompareRule (fun s => s.a))) ∧
    Mem2 0xD1 .cmpIndY eaIndY (AtMem (CompareRule (fun s => s.a))) ∧
    ByteForm 0xE0 .cpxImm (AtImm (CompareRule (fun s => s.x))) ∧
    Mem2 0xE4 .cpxZp eaZp (AtMem (CompareRule (fun s => s.x))) ∧
    Mem3 0xEC .cpxAbs eaAbs (AtMem (CompareRule (fun s => s.x))) ∧
    ByteForm 0xC0 .cpyImm (AtImm (CompareRule (fun s => s.y))) ∧
    Mem2 0xC4 .cpyZp eaZp (AtMem (CompareRule (fun s => s.y))) ∧
    Mem3 0xCC .cpyAbs eaAbs (AtMem (CompareRule (fun s => s.y)))

/-- INC and DEC step the byte at the effective address with one write. Cites R207, R208. -/
def Obligations.IncAndDecStepMemoryOnce : Prop :=
  Mem2 0xE6 .incZp eaZp (StepMemRule (fun m => m + 1)) ∧
    Mem2 0xF6 .incZpX eaZpX (StepMemRule (fun m => m + 1)) ∧
    Mem3 0xEE .incAbs eaAbs (StepMemRule (fun m => m + 1)) ∧
    Mem3 0xFE .incAbsX eaAbsX (StepMemRule (fun m => m + 1)) ∧
    Mem2 0xC6 .decZp eaZp (StepMemRule (fun m => m - 1)) ∧
    Mem2 0xD6 .decZpX eaZpX (StepMemRule (fun m => m - 1)) ∧
    Mem3 0xCE .decAbs eaAbs (StepMemRule (fun m => m - 1)) ∧
    Mem3 0xDE .decAbsX eaAbsX (StepMemRule (fun m => m - 1))

/-- INX, INY, DEX, DEY, TAX, TAY, TXA, TYA and TSX set a register and Z, N; TXS sets SP and no flag. Cites R209, R210,
R211, R212, R224, R225, R280, R281, R282, R283. -/
def Obligations.RegisterInstructionsCopyOrStep : Prop :=
  OneByte 0xE8 .inx (RegisterRule (fun s => { s with x := s.x + 1 }) (fun s => s.x + 1)) ∧
    OneByte 0xC8 .iny (RegisterRule (fun s => { s with y := s.y + 1 }) (fun s => s.y + 1)) ∧
    OneByte 0xCA .dex (RegisterRule (fun s => { s with x := s.x - 1 }) (fun s => s.x - 1)) ∧
    OneByte 0x88 .dey (RegisterRule (fun s => { s with y := s.y - 1 }) (fun s => s.y - 1)) ∧
    OneByte 0xAA .tax (RegisterRule (fun s => { s with x := s.a }) (fun s => s.a)) ∧
    OneByte 0xA8 .tay (RegisterRule (fun s => { s with y := s.a }) (fun s => s.a)) ∧
    OneByte 0x8A .txa (RegisterRule (fun s => { s with a := s.x }) (fun s => s.x)) ∧
    OneByte 0x98 .tya (RegisterRule (fun s => { s with a := s.y }) (fun s => s.y)) ∧
    OneByte 0xBA .tsx (RegisterRule (fun s => { s with x := s.sp }) (fun s => s.sp)) ∧
    OneByte 0x9A .txs (fun s t => t = { s with sp := s.x, pc := s.pc + 1 })

/-- PHA and PHP push one byte in page 1; PLA and PLP pull one, PLP without B and U. Cites R220, R221, R222, R223. -/
def Obligations.StackInstructionsPushAndPull : Prop :=
  OneByte 0x48 .pha (fun s t => t = { s.write (stackByte s.sp) s.a with sp := s.sp - 1, pc := s.pc + 1 }) ∧
    OneByte 0x08 .php (fun s t =>
      t = { s.write (stackByte s.sp) (s.p ||| 0x30) with sp := s.sp - 1, pc := s.pc + 1 }) ∧
    OneByte 0x68 .pla (fun s t =>
      t = { s with a := s.read (stackByte (s.sp + 1)), sp := s.sp + 1, p := t.p, pc := s.pc + 1 } ∧
        StatusZN s.p t.p (s.read (stackByte (s.sp + 1)))) ∧
    OneByte 0x28 .plp (fun s t =>
      t = { s with sp := s.sp + 1, p := (s.read (stackByte (s.sp + 1)) &&& 0xCF) ||| 0x20, pc := s.pc + 1 })

/-- JMP sets PC to its target; the indirect pointer does not carry into its high byte. Cites R154, R240. -/
def Obligations.JmpSetsPcWithThePageWrapBug : Prop :=
  Mem3 0x4C .jmpAbs eaAbs (fun s ea _ t => t = { s with pc := ea }) ∧
    (∀ (w : Word) (s : State), eaAbs w s = w) ∧
    Mem3 0x6C .jmpInd eaInd (fun s ea _ t => t = { s with pc := ea }) ∧
    ∀ (ptr : Word) (s : State),
      eaInd ptr s = s.read (BitVec.ofNat 16 (ptr.toNat / 256 * 256 + (ptr.toNat + 1) % 256)) ++ s.read ptr

/-- JSR pushes the address of its last byte, high byte first, and jumps. Cites R241. -/
def Obligations.JsrPushesTheAddressOfItsLastByte : Prop :=
  Mem3 0x20 .jsr eaAbs (fun s ea _ t =>
    t = { (s.write (stackByte s.sp) ((s.pc + 2) >>> 8 |>.setWidth 8)).write (stackByte (s.sp - 1))
            ((s.pc + 2).setWidth 8) with sp := s.sp - 2, pc := ea })

/-- RTS pops a word, low byte first, and continues one past it. Cites R242. -/
def Obligations.RtsReturnsPastThePoppedAddress : Prop :=
  OneByte 0x60 .rts (fun s t =>
    t = { s with
          sp := s.sp + 2
          pc := (s.read (stackByte (s.sp + 2)) ++ s.read (stackByte (s.sp + 1)) : BitVec 16) + 1 })

/-- BRK pushes its address + 2 and P with B and U set, sets I, and enters the vector. Cites R243, R420. -/
def Obligations.BrkTakesTheTrap : Prop :=
  ByteForm 0x00 .brk (fun s _ t =>
    let w := ((s.write (stackByte s.sp) ((s.pc + 2) >>> 8 |>.setWidth 8)).write (stackByte (s.sp - 1))
      ((s.pc + 2).setWidth 8)).write (stackByte (s.sp - 2)) (s.p ||| 0x30)
    t = { w with sp := s.sp - 3, p := s.p ||| 0x04, pc := s.read 0xFFFF ++ s.read 0xFFFE })

/-- RTI pulls P without B and U, then PC with no increment. Cites R244. -/
def Obligations.RtiRestoresStatusAndPc : Prop :=
  OneByte 0x40 .rti (fun s t =>
    t = { s with
          p := (s.read (stackByte (s.sp + 1)) &&& 0xCF) ||| 0x20
          sp := s.sp + 3
          pc := s.read (stackByte (s.sp + 3)) ++ s.read (stackByte (s.sp + 2)) })

/-- The eight branches test their flag and move PC by a signed offset. Cites R245, R246, R247, R248, R249, R250, R251,
R252, R253. -/
def Obligations.BranchesFollowTheirFlag : Prop :=
  ByteForm 0x90 .bcc (BranchRule (fun p => !p.getLsbD 0)) ∧
    ByteForm 0xB0 .bcs (BranchRule (fun p => p.getLsbD 0)) ∧
    ByteForm 0xF0 .beq (BranchRule (fun p => p.getLsbD 1)) ∧
    ByteForm 0x30 .bmi (BranchRule (fun p => p.getLsbD 7)) ∧
    ByteForm 0xD0 .bne (BranchRule (fun p => !p.getLsbD 1)) ∧
    ByteForm 0x10 .bpl (BranchRule (fun p => !p.getLsbD 7)) ∧
    ByteForm 0x50 .bvc (BranchRule (fun p => !p.getLsbD 6)) ∧
    ByteForm 0x70 .bvs (BranchRule (fun p => p.getLsbD 6))

/-- LDA, LDX and LDY load the operand and set Z and N, in every mode. Cites R260, R261, R262. -/
def Obligations.LoadsSetTheirRegisterAndZN : Prop :=
  ByteForm 0xA9 .ldaImm (AtImm LdaRule) ∧
    Mem2 0xA5 .ldaZp eaZp (AtMem LdaRule) ∧
    Mem2 0xB5 .ldaZpX eaZpX (AtMem LdaRule) ∧
    Mem3 0xAD .ldaAbs eaAbs (AtMem LdaRule) ∧
    Mem3 0xBD .ldaAbsX eaAbsX (AtMem LdaRule) ∧
    Mem3 0xB9 .ldaAbsY eaAbsY (AtMem LdaRule) ∧
    Mem2 0xA1 .ldaIndX eaIndX (AtMem LdaRule) ∧
    Mem2 0xB1 .ldaIndY eaIndY (AtMem LdaRule) ∧
    ByteForm 0xA2 .ldxImm (AtImm LdxRule) ∧
    Mem2 0xA6 .ldxZp eaZp (AtMem LdxRule) ∧
    Mem2 0xB6 .ldxZpY eaZpY (AtMem LdxRule) ∧
    Mem3 0xAE .ldxAbs eaAbs (AtMem LdxRule) ∧
    Mem3 0xBE .ldxAbsY eaAbsY (AtMem LdxRule) ∧
    ByteForm 0xA0 .ldyImm (AtImm LdyRule) ∧
    Mem2 0xA4 .ldyZp eaZp (AtMem LdyRule) ∧
    Mem2 0xB4 .ldyZpX eaZpX (AtMem LdyRule) ∧
    Mem3 0xAC .ldyAbs eaAbs (AtMem LdyRule) ∧
    Mem3 0xBC .ldyAbsX eaAbsX (AtMem LdyRule)

/-- STA, STX and STY write their register once at the effective address, in every mode. Cites R263, R264, R265. -/
def Obligations.StoresWriteOnceAtTheEffectiveAddress : Prop :=
  Mem2 0x85 .staZp eaZp (StoreRule (fun s => s.a)) ∧
    Mem2 0x95 .staZpX eaZpX (StoreRule (fun s => s.a)) ∧
    Mem3 0x8D .staAbs eaAbs (StoreRule (fun s => s.a)) ∧
    Mem3 0x9D .staAbsX eaAbsX (StoreRule (fun s => s.a)) ∧
    Mem3 0x99 .staAbsY eaAbsY (StoreRule (fun s => s.a)) ∧
    Mem2 0x81 .staIndX eaIndX (StoreRule (fun s => s.a)) ∧
    Mem2 0x91 .staIndY eaIndY (StoreRule (fun s => s.a)) ∧
    Mem2 0x86 .stxZp eaZp (StoreRule (fun s => s.x)) ∧
    Mem2 0x96 .stxZpY eaZpY (StoreRule (fun s => s.x)) ∧
    Mem3 0x8E .stxAbs eaAbs (StoreRule (fun s => s.x)) ∧
    Mem2 0x84 .styZp eaZp (StoreRule (fun s => s.y)) ∧
    Mem2 0x94 .styZpX eaZpX (StoreRule (fun s => s.y)) ∧
    Mem3 0x8C .styAbs eaAbs (StoreRule (fun s => s.y))

/-- AND, ORA and EOR combine A with the operand and set Z and N, in every mode. Cites R300, R301, R302. -/
def Obligations.LogicOperationsSetAAndZN : Prop :=
  ByteForm 0x29 .andImm (AtImm (LogicRule (fun a m => a &&& m))) ∧
    Mem2 0x25 .andZp eaZp (AtMem (LogicRule (fun a m => a &&& m))) ∧
    Mem2 0x35 .andZpX eaZpX (AtMem (LogicRule (fun a m => a &&& m))) ∧
    Mem3 0x2D .andAbs eaAbs (AtMem (LogicRule (fun a m => a &&& m))) ∧
    Mem3 0x3D .andAbsX eaAbsX (AtMem (LogicRule (fun a m => a &&& m))) ∧
    Mem3 0x39 .andAbsY eaAbsY (AtMem (LogicRule (fun a m => a &&& m))) ∧
    Mem2 0x21 .andIndX eaIndX (AtMem (LogicRule (fun a m => a &&& m))) ∧
    Mem2 0x31 .andIndY eaIndY (AtMem (LogicRule (fun a m => a &&& m))) ∧
    ByteForm 0x09 .oraImm (AtImm (LogicRule (fun a m => a ||| m))) ∧
    Mem2 0x05 .oraZp eaZp (AtMem (LogicRule (fun a m => a ||| m))) ∧
    Mem2 0x15 .oraZpX eaZpX (AtMem (LogicRule (fun a m => a ||| m))) ∧
    Mem3 0x0D .oraAbs eaAbs (AtMem (LogicRule (fun a m => a ||| m))) ∧
    Mem3 0x1D .oraAbsX eaAbsX (AtMem (LogicRule (fun a m => a ||| m))) ∧
    Mem3 0x19 .oraAbsY eaAbsY (AtMem (LogicRule (fun a m => a ||| m))) ∧
    Mem2 0x01 .oraIndX eaIndX (AtMem (LogicRule (fun a m => a ||| m))) ∧
    Mem2 0x11 .oraIndY eaIndY (AtMem (LogicRule (fun a m => a ||| m))) ∧
    ByteForm 0x49 .eorImm (AtImm (LogicRule (fun a m => a ^^^ m))) ∧
    Mem2 0x45 .eorZp eaZp (AtMem (LogicRule (fun a m => a ^^^ m))) ∧
    Mem2 0x55 .eorZpX eaZpX (AtMem (LogicRule (fun a m => a ^^^ m))) ∧
    Mem3 0x4D .eorAbs eaAbs (AtMem (LogicRule (fun a m => a ^^^ m))) ∧
    Mem3 0x5D .eorAbsX eaAbsX (AtMem (LogicRule (fun a m => a ^^^ m))) ∧
    Mem3 0x59 .eorAbsY eaAbsY (AtMem (LogicRule (fun a m => a ^^^ m))) ∧
    Mem2 0x41 .eorIndX eaIndX (AtMem (LogicRule (fun a m => a ^^^ m))) ∧
    Mem2 0x51 .eorIndY eaIndY (AtMem (LogicRule (fun a m => a ^^^ m)))

/-- BIT sets Z from A & m, and N and V from the operand itself. Cites R303. -/
def Obligations.BitTakesNAndVFromTheOperand : Prop :=
  Mem2 0x24 .bitZp eaZp (AtMem BitRule) ∧ Mem3 0x2C .bitAbs eaAbs (AtMem BitRule)

/-- ASL, LSR, ROL and ROR, accumulator and memory forms. Cites R304, R305, R306, R307, R308. -/
def Obligations.ShiftsAndRotatesMoveOneBitThroughCarry : Prop :=
  ShiftForms aslSpec 0x0A 0x06 0x16 0x0E 0x1E .aslAcc .aslZp .aslZpX .aslAbs .aslAbsX ∧
    ShiftForms lsrSpec 0x4A 0x46 0x56 0x4E 0x5E .lsrAcc .lsrZp .lsrZpX .lsrAbs .lsrAbsX ∧
    ShiftForms rolSpec 0x2A 0x26 0x36 0x2E 0x3E .rolAcc .rolZp .rolZpX .rolAbs .rolAbsX ∧
    ShiftForms rorSpec 0x6A 0x66 0x76 0x6E 0x7E .rorAcc .rorZp .rorZpX .rorAbs .rorAbsX

/-- CLC, CLD, CLI, CLV, SEC, SED, SEI write their flag alone; NOP writes none. Cites R320, R321, R322, R323, R324,
R325, R326, R327. -/
def Obligations.FlagInstructionsWriteOneFlag : Prop :=
  OneByte 0x18 .clc (FlagRule (fun s q => Status s.p q (s.p.getLsbD 7) (s.p.getLsbD 6) (s.p.getLsbD 3) (s.p.getLsbD 2) (s.p.getLsbD 1) (false))) ∧
    OneByte 0xD8 .cld (FlagRule (fun s q => Status s.p q (s.p.getLsbD 7) (s.p.getLsbD 6) (false) (s.p.getLsbD 2) (s.p.getLsbD 1) (s.p.getLsbD 0))) ∧
    OneByte 0x58 .cli (FlagRule (fun s q => Status s.p q (s.p.getLsbD 7) (s.p.getLsbD 6) (s.p.getLsbD 3) (false) (s.p.getLsbD 1) (s.p.getLsbD 0))) ∧
    OneByte 0xB8 .clv (FlagRule (fun s q => Status s.p q (s.p.getLsbD 7) (false) (s.p.getLsbD 3) (s.p.getLsbD 2) (s.p.getLsbD 1) (s.p.getLsbD 0))) ∧
    OneByte 0x38 .sec (FlagRule (fun s q => Status s.p q (s.p.getLsbD 7) (s.p.getLsbD 6) (s.p.getLsbD 3) (s.p.getLsbD 2) (s.p.getLsbD 1) (true))) ∧
    OneByte 0xF8 .sed (FlagRule (fun s q => Status s.p q (s.p.getLsbD 7) (s.p.getLsbD 6) (true) (s.p.getLsbD 2) (s.p.getLsbD 1) (s.p.getLsbD 0))) ∧
    OneByte 0x78 .sei (FlagRule (fun s q => Status s.p q (s.p.getLsbD 7) (s.p.getLsbD 6) (s.p.getLsbD 3) (true) (s.p.getLsbD 1) (s.p.getLsbD 0))) ∧
    OneByte 0xEA .nop (fun s t => t = { s with pc := s.pc + 1 })

/-- The effective addresses of the seven indexed and absolute modes, as arithmetic. Cites R147, R148, R149, R150,
R151, R152, R155, R156. The value of `ZP_PTR_WRAP` is free (log 7): the statement holds for both. -/
def Obligations.AddressingModesComputeTheirAddress : Prop :=
  ∀ (b : Byte) (w : Word) (s : State),
    (eaZp b s).toNat = b.toNat ∧
    (eaZpX b s).toNat = (b.toNat + s.x.toNat) % 256 ∧
    (eaZpY b s).toNat = (b.toNat + s.y.toNat) % 256 ∧
    eaAbs w s = w ∧
    (eaAbsX w s).toNat = (w.toNat + s.x.toNat) % 65536 ∧
    (eaAbsY w s).toNat = (w.toNat + s.y.toNat) % 65536 ∧
    (let high (p : Nat) : Word :=
      BitVec.ofNat 16 (if p = 255 then (if Config.zpPtrWrap then 0 else 256) else p + 1)
    (eaIndX b s =
      s.read (high ((b.toNat + s.x.toNat) % 256)) ++ s.read (BitVec.ofNat 16 ((b.toNat + s.x.toNat) % 256))) ∧
    (eaIndY b s).toNat =
      ((s.read (high b.toNat) ++ s.read (BitVec.ofNat 16 b.toNat) : BitVec 16).toNat + s.y.toNat) % 65536)

/-- No instruction is privileged and none stops: each completes from every state. Cites R400, R425, R463. The draw
numbers are the model's own fields (log 13). -/
def Obligations.EveryInstructionCompletes : Prop :=
  ∀ (i : Instr) (s : State), Done (exec i s) (fun t =>
    t.fault = s.fault ∧ t.cyclesRemaining = s.cyclesRemaining ∧ t.cart = s.cart ∧ t.chrRam = s.chrRam ∧
      t.drawIndex = s.drawIndex ∧ t.cartRamDraw = s.cartRamDraw)

/-- A, X, Y and SP change only by the instructions the spec lists as their writers. Cites R20, R21, R23. -/
def Obligations.RegistersChangeOnlyByTheirWriters : Prop :=
  ∀ (i : Instr) (s : State), Done (exec i s) (fun t =>
    (writesA i = false → t.a = s.a) ∧ (writesX i = false → t.x = s.x) ∧ (writesY i = false → t.y = s.y) ∧
      (writesSp i = false → t.sp = s.sp))

/-- Each flag of P changes only by the instructions the spec lists as its writers. Cites R25, R26. -/
def Obligations.FlagsChangeOnlyByTheirWriters : Prop :=
  ∀ (i : Instr) (s : State) (f : Flag), statusOk s.p = true → Done (exec i s) (fun t =>
    writesFlag i f = false → t.flag f = s.flag f)

/-- Every byte of memory outside the bytes an instruction stores to reads as before. Cites R55, R58, R59, R73, R105,
R123, R159. -/
def Obligations.BytesChangeOnlyWhereStored : Prop :=
  ∀ (i : Instr) (s : State), Done (exec i s) (fun t =>
    ∀ a : Word, (∀ ea ∈ storedAddrs i s, storeReaches ea a = false) → t.read a = s.read a)

/-- The notification trace is append-only, and only stores to 0x4014, 0x4016, 0x4017 append. Cites R56, R59. -/
def Obligations.TheTraceOnlyGrowsByNotifyingStores : Prop :=
  ∀ (i : Instr) (s : State), Done (exec i s) (fun t =>
    (∃ es, t.trace = s.trace ++ es) ∧
      ((∀ ea ∈ storedAddrs i s, ea ≠ 0x4014 ∧ ea ≠ 0x4016 ∧ ea ≠ 0x4017) → t.trace = s.trace))

/-- The decimal flag changes no computation. Cites R27, R200. -/
def Obligations.DecimalFlagNeverMatters : Prop :=
  ∀ (i : Instr) (s : State) (b : Bool),
    [Mnemonic.php, .plp, .brk, .rti, .sed, .cld].contains i.mnemonic = false →
      Done (exec i s) (fun t => exec i (s.setFlag .decimal b) = .next (t.setFlag .decimal b))

/-- RTI after BRK and RTS after JSR resume after the call with SP, and RTI with P, as they were. Cites R241, R242,
R243, R244, R421. -/
def Obligations.ReturnsUndoTheirCalls : Prop :=
  ∀ (s : State) (sig a x y p : Byte) (w pc : Word),
    (statusOk s.p = true →
      Done (exec (.brk sig) s) (fun t =>
        Done (exec .rti { t with a := a, x := x, y := y, p := p, pc := pc }) (fun u =>
          u.pc = s.pc + 2 ∧ u.p = s.p ∧ u.sp = s.sp ∧ u.a = a ∧ u.x = x ∧ u.y = y))) ∧
    Done (exec (.jsr w) s) (fun t =>
      Done (exec .rts { t with a := a, x := x, y := y, p := p, pc := pc }) (fun u =>
        u.pc = s.pc + 3 ∧ u.sp = s.sp ∧ u.a = a ∧ u.x = x ∧ u.y = y ∧ u.p = p))

/-- RAM is 2 KB, mirrored four times in 0x0000-0x1FFF. Cites R55. -/
def Obligations.RamIsMirroredFourTimes : Prop :=
  ∀ (s : State) (a b : Word) (v : Byte), a.toNat < 0x2000 →
    s.write a v = { s with ram := (s.write a v).ram } ∧
      (b.toNat < 0x2000 → (s.write a v).read b = if b.toNat % 2048 = a.toNat % 2048 then v else s.read b)

/-- The video-register window is 8 bytes of plain storage, repeated every 8 addresses. Cites R58. -/
def Obligations.VideoRegistersRepeatEveryEightBytes : Prop :=
  ∀ (s : State) (a b : Word) (v : Byte), 0x2000 ≤ a.toNat → a.toNat < 0x4000 →
    s.write a v = { s with ppuRegs := (s.write a v).ppuRegs } ∧
      (0x2000 ≤ b.toNat → b.toNat < 0x4000 →
        (s.write a v).read b = if b.toNat % 8 = a.toNat % 8 then v else s.read b)

/-- The audio/IO window stores bytes and notifies at 0x4014, 0x4016 and 0x4017. Cites R59. -/
def Obligations.AudioWritesStoreAndNotify : Prop :=
  ∀ (s : State) (a b : Word) (v : Byte), 0x4000 ≤ a.toNat → a.toNat < 0x4020 →
    s.write a v = { s with apuRegs := (s.write a v).apuRegs, trace := (s.write a v).trace } ∧
      (0x4000 ≤ b.toNat → b.toNat < 0x4020 → (s.write a v).read b = if b = a then v else s.read b) ∧
      (s.write a v).trace =
        s.trace ++
          (if a = 0x4014 then [.bulkTransfer v]
          else if a = 0x4016 then [.controllerPort .port4016 v]
          else if a = 0x4017 then [.controllerPort .port4017 v]
          else [])

/-- 0x4020-0x5FFF: reads are the open-bus draw, writes change nothing. Cites R73. The draw is a free value (log 6):
the statement holds for every value of it. -/
def Obligations.ExpansionRangeHoldsNothing : Prop :=
  ∀ (s : State) (a : Word) (v : Byte), 0x4020 ≤ a.toNat → a.toNat < 0x6000 →
    s.read a = Config.openBusRead s.drawIndex a ∧ s.write a v = s

/-- NROM maps one bank at both halves or two banks in order, and ignores writes. Cites R81, R82. That a PRG-ROM byte
the cartridge does not list reads 0xFF is the model's choice (log 3, unsafe), no rule of the spec. -/
def Obligations.NromReadsItsOneOrTwoBanks : Prop :=
  ∀ (s : State) (a : Word) (v : Byte), s.mapper = .nrom →
    (0x8000 ≤ a.toNat → s.cart.prgRomSize = 16384 → s.read a = romByte s.cart (a &&& 0x3FFF).toNat) ∧
    (0x8000 ≤ a.toNat → s.cart.prgRomSize = 32768 → s.read a = romByte s.cart (a.toNat - 0x8000)) ∧
    (0x4020 ≤ a.toNat → a.toNat < 0x8000 → s.read a = Config.openBusRead s.drawIndex a) ∧
    (0x4020 ≤ a.toNat → s.write a v = s)

/-- PRG-RAM answers and accepts writes only as its enable and protect bits say. Cites R104, R107, R121. -/
def Obligations.PrgRamFollowsItsEnables : Prop :=
  ∀ (s : State) (a b : Word) (v : Byte), 0x6000 ≤ a.toNat → a.toNat < 0x8000 → 0x6000 ≤ b.toNat → b.toNat < 0x8000 →
    let open_ (u : State) : Prop := u.read a = Config.openBusRead u.drawIndex a
    let stored : Prop := s.write a v = { s with prgRam := (s.write a v).prgRam } ∧
      Mem.lookup (a.toNat - 0x6000) (s.write a v).prgRam = some v ∧
      (b ≠ a → Mem.lookup (b.toNat - 0x6000) (s.write a v).prgRam = Mem.lookup (b.toNat - 0x6000) s.prgRam)
    let answers : Prop := s.read a =
      (Mem.lookup (a.toNat - 0x6000) s.prgRam).getD (Config.prgRamInit s.cartRamDraw (a.toNat - 0x6000))
    (∀ r, s.mapper = .mmc1 r →
      (r.prgBank.getLsbD 4 = false → answers ∧ stored) ∧
      (r.prgBank.getLsbD 4 = true → open_ s ∧ s.write a v = s)) ∧
    (∀ r, s.mapper = .mmc3 r →
      (r.prgRamEnable = true → answers) ∧ (r.prgRamEnable = false → open_ s) ∧
      (r.prgRamEnable = true ∧ r.prgRamWriteProtect = false → stored) ∧
      (¬ (r.prgRamEnable = true ∧ r.prgRamWriteProtect = false) → s.write a v = s))

/-- One MMC1 register write: the serial step, the latch, and the reset write. Cites R95, R96, R100, R101. -/
def Obligations.Mmc1SingleWriteProtocol : Prop :=
  ∀ (s : State) (r : Mmc1) (a : Word) (v : Byte), s.mapper = .mmc1 r → 0x8000 ≤ a.toNat →
    ∃ r' : Mmc1, s.write a v = { s with mapper := .mmc1 r', mirroring := (s.write a v).mirroring } ∧
      (let value : Nat := r.shiftReg.toNat / 2 + 16 * (v.getLsbD 0).toNat
      let target : Nat := a.toNat / 8192 % 4
      if v.getLsbD 7 then
        r' = { r with shiftReg := 0, shiftCount := 0, control := r.control ||| 0x0C } ∧
          (s.write a v).mirroring = s.mirroring
      else if r.shiftCount.val = 4 then
        r'.shiftReg = 0 ∧ r'.shiftCount = 0 ∧
          r'.control.toNat = (if target = 0 then value else r.control.toNat) ∧
          r'.chrBank0.toNat = (if target = 1 then value else r.chrBank0.toNat) ∧
          r'.chrBank1.toNat = (if target = 2 then value else r.chrBank1.toNat) ∧
          r'.prgBank.toNat = (if target = 3 then value else r.prgBank.toNat) ∧
          (s.write a v).mirroring =
            (if target = 0 then
              (if value % 4 = 0 then .singleScreenLower
              else if value % 4 = 1 then .singleScreenUpper
              else if value % 4 = 2 then .vertical
              else .horizontal)
            else s.mirroring)
      else
        r'.shiftReg.toNat = value ∧ r'.shiftCount.val = r.shiftCount.val + 1 ∧ r'.control = r.control ∧
          r'.chrBank0 = r.chrBank0 ∧ r'.chrBank1 = r.chrBank1 ∧ r'.prgBank = r.prgBank ∧
          (s.write a v).mirroring = s.mirroring)

/-- Five qualifying MMC1 writes latch their low bits, first write least significant. Cites R95, R100. -/
def Obligations.Mmc1FiveWritesLatchTheirBits : Prop :=
  ∀ (s : State) (r : Mmc1) (a1 a2 a3 a4 a5 : Word) (v1 v2 v3 v4 v5 : Byte), s.mapper = .mmc1 r → r.shiftCount = 0 →
    0x8000 ≤ a1.toNat → 0x8000 ≤ a2.toNat → 0x8000 ≤ a3.toNat → 0x8000 ≤ a4.toNat → 0x8000 ≤ a5.toNat →
    v1.getLsbD 7 = false → v2.getLsbD 7 = false → v3.getLsbD 7 = false → v4.getLsbD 7 = false → v5.getLsbD 7 = false →
    ∃ r' : Mmc1, (((((s.write a1 v1).write a2 v2).write a3 v3).write a4 v4).write a5 v5).mapper = .mmc1 r' ∧
      r'.shiftReg = 0 ∧ r'.shiftCount = 0 ∧
      (let value := v1.toNat % 2 + 2 * (v2.toNat % 2) + 4 * (v3.toNat % 2) + 8 * (v4.toNat % 2) + 16 * (v5.toNat % 2)
      let target := a5.toNat / 8192 % 4
      r'.control.toNat = (if target = 0 then value else r.control.toNat) ∧
        r'.chrBank0.toNat = (if target = 1 then value else r.chrBank0.toNat) ∧
        r'.chrBank1.toNat = (if target = 2 then value else r.chrBank1.toNat) ∧
        r'.prgBank.toNat = (if target = 3 then value else r.prgBank.toNat))

/-- MMC1 PRG translation in its three modes. Cites R102. That a PRG-ROM byte the cartridge does not list reads 0xFF is
the model's choice (log 3, unsafe), no rule of the spec. -/
def Obligations.Mmc1MapsPrgByMode : Prop :=
  ∀ (s : State) (r : Mmc1) (a : Word) (v : Byte), s.mapper = .mmc1 r → 0x8000 ≤ a.toNat →
    (let n := s.cart.prgRomSize / 16384
    let b := (r.prgBank &&& 0x0F).toNat
    let mode := ((r.control >>> 2) &&& 3).toNat
    let lo := if mode = 2 then 0 else if mode = 3 then b else b / 2 * 2
    let hi := if mode = 2 then b else if mode = 3 then n - 1 else b / 2 * 2 + 1
    let bank := if a.toNat < 0xC000 then lo else hi
    s.read a = romByte s.cart (bank % n * 0x4000 + (a &&& 0x3FFF).toNat)) ∧ (s.write a v).cart = s.cart

/-- The eight MMC3 registers, by sub-window and address parity. Cites R110, R112, R115, R116, R117, R118. -/
def Obligations.Mmc3RegisterWrites : Prop :=
  ∀ (s : State) (r : Mmc3) (a : Word) (v : Byte), s.mapper = .mmc3 r → 0x8000 ≤ a.toNat →
    s.write a v =
      (let w := a.toNat / 8192 % 4
      if a.toNat % 2 = 0 then
        if w = 0 then { s with mapper := .mmc3 { r with bankSelect := v } }
        else if w = 1 then { s with mirroring := if v.getLsbD 0 then .horizontal else .vertical }
        else if w = 2 then { s with mapper := .mmc3 { r with irqLatch := v } }
        else { s with mapper := .mmc3 { r with irqEnabled := false, irqPending := false } }
      else
        if w = 0 then
          { s with
            mapper := .mmc3 { r with br := r.br.set (r.bankSelect.toNat % 8) v (Nat.mod_lt _ (Nat.succ_pos 7)) } }
        else if w = 1 then
          { s with
            mapper := .mmc3 { r with prgRamEnable := v.getLsbD 7, prgRamWriteProtect := v.getLsbD 6 } }
        else if w = 2 then { s with mapper := .mmc3 { r with irqReload := true, irqCounter := 0 } }
        else { s with mapper := .mmc3 { r with irqEnabled := true } })

/-- MMC3 PRG translation: two switchable and two fixed 8 KB slots. Cites R113. That a PRG-ROM byte the cartridge does
not list reads 0xFF is the model's choice (log 3, unsafe), no rule of the spec. -/
def Obligations.Mmc3MapsPrgBySlot : Prop :=
  ∀ (s : State) (r : Mmc3) (a : Word), s.mapper = .mmc3 r → 0x8000 ≤ a.toNat →
    (let n := s.cart.prgRomSize / 8192
    let slot := a.toNat / 8192 % 4
    let swapped := r.bankSelect.getLsbD 6
    let bank :=
      if slot = 0 then (if swapped then n - 2 else r.br[6].toNat)
      else if slot = 1 then r.br[7].toNat
      else if slot = 2 then (if swapped then r.br[6].toNat else n - 2)
      else n - 1
    s.read a = romByte s.cart (bank % n * 0x2000 + (a &&& 0x1FFF).toNat))

/-- CHR translation of NROM, MMC1 and MMC3. Cites R83, R103, R114. -/
def Obligations.ChrTranslationsOfTheThreeMappers : Prop :=
  ∀ (c : Cartridge) (a : Nat), a < 0x2000 →
    chrIndex c .nrom a = a ∧
    (∀ r : Mmc1,
      (let m := (if c.chrDataSize = 0 then 8192 else c.chrDataSize) / 4096
      let bank :=
        if r.control.getLsbD 4 then (if a < 0x1000 then r.chrBank0.toNat else r.chrBank1.toNat)
        else r.chrBank0.toNat / 2 * 2 + a / 0x1000
      chrIndex c (.mmc1 r) a = bank % m * 0x1000 + a % 0x1000)) ∧
    (∀ r : Mmc3,
      (let m := (if c.chrDataSize = 0 then 8192 else c.chrDataSize) / 1024
      let k := if r.bankSelect.getLsbD 7 then (a / 0x400 + 4) % 8 else a / 0x400
      let banks : List Nat :=
        [r.br[0].toNat / 2 * 2, r.br[0].toNat / 2 * 2 + 1, r.br[1].toNat / 2 * 2, r.br[1].toNat / 2 * 2 + 1,
          r.br[2].toNat, r.br[3].toNat, r.br[4].toNat, r.br[5].toNat]
      chrIndex c (.mmc3 r) a = banks.getD k 0 % m * 0x400 + a % 0x400))

/-- Every PRG and CHR index lies inside its buffer. Cites R77, R400. -/
def Obligations.BankOffsetsLandInsideTheirBuffers : Prop :=
  ∀ (c : Cartridge) (m : Mapper), c.wf = true → variantOk c m = true →
    (∀ a : Word, 0x8000 ≤ a.toNat → prgIndex c m a < c.prgRomSize) ∧
      ∀ a : Nat, a < 0x2000 → chrIndex c m a < if c.chrDataSize = 0 then 8192 else c.chrDataSize

/-- The CHR port: reads, writes that land only in CHR-RAM, and refused addresses. Cites R75. That a CHR-ROM byte the
cartridge does not list reads 0xFF is the model's choice (log 3, unsafe), no rule of the spec. -/
def Obligations.ChrPortReadsAndWrites : Prop :=
  ∀ (s : State) (a b : Int) (v : Byte),
    (¬ (0 ≤ a ∧ a < 0x2000) →
      ppuRead s a = .refused .chrAddressOutOfRange ∧ ppuWrite s a v = .refused .chrAddressOutOfRange) ∧
    (0 ≤ a ∧ a < 0x2000 → 0 ≤ b ∧ b < 0x2000 →
      ∃ t w, ppuWrite s a v = .next t ∧ ppuRead s b = .next w ∧ t = { s with chrRam := t.chrRam } ∧
        (s.cart.chrDataSize ≠ 0 →
          t = s ∧ w = (Mem.lookup (chrIndex s.cart s.mapper b.toNat) s.cart.chrRom).getD 0xFF) ∧
        (s.cart.chrDataSize = 0 →
          ppuRead t b =
            .next (if chrIndex s.cart s.mapper b.toNat = chrIndex s.cart s.mapper a.toNat then v else w)))

/-- One onScanline() call: reload or decrement, raise, report. Cites R79, R119. -/
def Obligations.ScanlineCounterCountsOnce : Prop :=
  ∀ s : State,
    (∀ r, s.mapper = .mmc3 r →
      ∃ r' : Mmc3, onScanline s = ({ s with mapper := .mmc3 r' }, r'.irqPending) ∧
        r' = { r with irqCounter := r'.irqCounter, irqReload := false, irqPending := r'.irqPending } ∧
        (r'.irqCounter.toNat =
          if r.irqCounter.toNat = 0 ∨ r.irqReload = true then r.irqLatch.toNat else r.irqCounter.toNat - 1) ∧
        (r'.irqPending = true ↔ r.irqPending = true ∨ (r'.irqCounter.toNat = 0 ∧ r.irqEnabled = true))) ∧
    ((s.mapper = .nrom ∨ ∃ r, s.mapper = .mmc1 r) → onScanline s = (s, false))

/-- After a reload request, call L + 1 of onScanline() is the first to report pending. Cites R117, R118, R119,
95_test_vectors.md W8. -/
def Obligations.ScanlineInterruptComesAtCallLPlusOne : Prop :=
  ∀ (s : State) (r : Mmc3) (k : Nat), s.mapper = .mmc3 r → r.irqReload = true → r.irqCounter = 0 → r.irqEnabled = true →
    r.irqPending = false → k ≤ r.irqLatch.toNat →
      (onScanline (afterScanlines k s)).2 = decide (k = r.irqLatch.toNat)

/-- The 105 unmapped opcodes raise InvalidOpcode and leave only PC and the record changed. Cites R141, R161, R402. The
draw number is the model's own field (log 13). -/
def Obligations.UnmappedOpcodesFaultAtDecode : Prop :=
  ((List.range 256).filter (fun n => (opcodeEntry n).isNone)).length = 105 ∧
    ∀ s : State, s.fault = none → opcodeEntry (s.read s.pc).toNat = none →
      step s = .fault (.invalidOpcode (s.read s.pc) s.pc) ∧
        hostStep s =
          ({ s with
             pc := s.pc + 1
             fault := some (.invalidOpcode (s.read s.pc) s.pc)
             drawIndex := s.drawIndex + 1 }, .fault (.invalidOpcode (s.read s.pc) s.pc))

/-- A recorded fault ends the instruction stream, and CPU reset does not clear it. Cites R31, R401, R452. That a step
of a faulted state answers the recorded fault is the model's choice (log 8): the spec says no step is taken. -/
def Obligations.FaultedStateIsQuiescent : Prop :=
  ∀ (s : State) (f : Fault), s.fault = some f →
    step s = .fault f ∧ hostStep s = (s, .fault f) ∧ clock s = (s, .fault f) ∧ s.cpuReset.fault = some f ∧
      step s.cpuReset = .fault f

/-- CPU reset: the registers, PC from the reset vector, and nothing outside the CPU. Cites R451, R452, R453. -/
def Obligations.CpuResetValues : Prop :=
  ∀ s : State,
    s.cpuReset =
      { s with
        a := 0
        x := 0
        y := 0
        sp := 0xFD
        p := 0x24
        pc := s.read 0xFFFD ++ s.read 0xFFFC
        cyclesRemaining := 0 }

/-- Construction: the mapper in its reset state, the CPU reset, or the named fault. Cites R10, R72, R74, R80, R106,
R122, R403, R405, R406, R450, R451. That the mapper number is looked at before the launch premises is the model's
reading (log 11). A buffer is held as a list in canonical form, so `Cartridge.wf` also refuses a list that is unsorted
or lists the unlisted byte 0xFF: the model's own (log 9, log 20), no rule of the spec. -/
def Obligations.ConstructionBuildsResetsOrRefuses : Prop :=
  ∀ c : Cartridge,
    (c.mapperNumber ≠ 0 → c.mapperNumber ≠ 1 → c.mapperNumber ≠ 4 →
      construct c = .fault (.unsupportedMapper c.mapperNumber)) ∧
    ((c.mapperNumber = 0 ∨ c.mapperNumber = 1 ∨ c.mapperNumber = 4) → c.wf = false →
      construct c = .refused .cartridgePremise) ∧
    ((c.mapperNumber = 0 ∨ c.mapperNumber = 1 ∨ c.mapperNumber = 4) → c.wf = true →
      Done (construct c) (fun s =>
        s.a = 0 ∧ s.x = 0 ∧ s.y = 0 ∧ s.sp = 0xFD ∧ s.p = 0x24 ∧ s.pc = s.read 0xFFFD ++ s.read 0xFFFC ∧
          s.cyclesRemaining = 0 ∧ s.fault = none ∧ s.trace = [] ∧ s.ram = [] ∧ s.ppuRegs = [] ∧ s.apuRegs = [] ∧
          s.prgRam = [] ∧ s.chrRam = [] ∧ s.cart = c ∧ variantOk c s.mapper = true ∧
          s.mirroring = (if c.verticalMirroring then .vertical else .horizontal) ∧
          (∀ r, s.mapper = .mmc1 r → r = ⟨0, 0, 0x0C, 0, 0, 0⟩) ∧
          (∀ r, s.mapper = .mmc3 r →
            r = ⟨0, Vector.replicate 8 0, true, false, 0, 0, false, false, false⟩)))

/-- Mapper reset: power-on registers and mirroring; the CPU and the Bus untouched. Cites R74, R76, R78, R84, R106,
R122. The draw number is the model's own field (log 5, log 13). -/
def Obligations.MapperResetRestoresPowerOn : Prop :=
  ∀ s : State,
    (mapperReset s =
      { s with
        mapper := (mapperReset s).mapper
        mirroring := if s.cart.verticalMirroring then .vertical else .horizontal
        prgRam := []
        chrRam := []
        cartRamDraw := s.cartRamDraw + 1 }) ∧
    (s.mapper = .nrom → (mapperReset s).mapper = .nrom) ∧
    (∀ r, s.mapper = .mmc1 r → (mapperReset s).mapper = .mmc1 ⟨0, 0, 0x0C, 0, 0, 0⟩) ∧
    ∀ r, s.mapper = .mmc3 r →
      (mapperReset s).mapper = .mmc3 ⟨0, Vector.replicate 8 0, true, false, 0, 0, false, false, false⟩

/-- Raw host read and write are the Bus's, the address masked to 16 bits; other data is refused. Cites R52, R53, R69,
R406. The draw number a raw read takes is the model's own (log 13). -/
def Obligations.RawHostAccessesAreBusAccesses : Prop :=
  ∀ (s : State) (address data : Int),
    (hostRead s address = ({ s with drawIndex := s.drawIndex + 1 }, s.read (BitVec.ofNat 16 (address % 65536).toNat))) ∧
    (0 ≤ data ∧ data ≤ 255 →
      hostWrite s address data =
        .next (s.write (BitVec.ofNat 16 (address % 65536).toNat) (BitVec.ofNat 8 data.toNat))) ∧
    (¬ (0 ≤ data ∧ data ≤ 255) → hostWrite s address data = .refused .hostDataOutOfRange)

/-- clock() runs a whole instruction in the first cycle of its window and counts the rest. Cites R460. -/
def Obligations.ClockRunsAnInstructionInItsFirstCycle : Prop :=
  ∀ s : State, s.fault = none →
    (s.cyclesRemaining ≠ 0 → clock s = ({ s with cyclesRemaining := s.cyclesRemaining - 1 }, .next ())) ∧
    (s.cyclesRemaining = 0 → ∀ t, step s = .next t →
      clock s = ({ t with cyclesRemaining := baseCycles (s.read s.pc) - 1 }, .next ())) ∧
    (s.cyclesRemaining = 0 → ∀ f, step s = .fault f →
      ∃ t, clock s = (t, .fault f) ∧ hostStep s = (t, .fault f) ∧ t.cyclesRemaining = 0)

/-- step() returns the base cycle count of the table of R461, by mnemonic and mode, never below 2. Cites R144, R461,
R462. The spec marks the counts of its table as general knowledge, not its source's (GK14). -/
def Obligations.BaseCyclesFollowTheTable : Prop :=
  (∀ (i : Instr) (op : Byte) (rest : List Byte), encode i = op :: rest → baseCycles op = tableCycles i) ∧
    (∀ (s t : State) (i : Instr) (rest : List Byte),
      decode [s.read s.pc, s.read (s.pc + 1), s.read (s.pc + 2)] = .ok (i, rest) → step s = .next t →
        hostStep s = (t, .next (tableCycles i))) ∧
    ∀ op : Byte, (opcodeEntry op.toNat).isSome = true → 2 ≤ baseCycles op ∧ baseCycles op ≤ 7

/-- A step runs the instruction decoded from the bytes at PC. Cites R140, R141, R142, R143, R144. The draw number is
the model's own field (log 13): the fetch takes one and the instruction the next. -/
def Obligations.StepRunsTheDecodedInstruction : Prop :=
  ∀ (s : State) (i : Instr) (rest : List Byte), s.fault = none → i.wf = true →
    decode [s.read s.pc, s.read (s.pc + 1), s.read (s.pc + 2)] = .ok (i, rest) →
      (let u : State := { s with drawIndex := s.drawIndex + 1 }
      (∀ t, exec i u = .next t → step s = .next { t with drawIndex := t.drawIndex + 1 }) ∧
      (∀ f, exec i u = .fault f → step s = .fault f) ∧
      (∀ r, exec i u = .refused r → step s = .refused r))

/-- Decoding the encoding of any instruction gives it back, whatever follows. Cites R145, R160, R163. -/
def Obligations.DecodeUndoesEncode : Prop :=
  ∀ (i : Instr) (rest : List Byte), i.wf = true → decode (encode i ++ rest) = .ok (i, rest)

/-- Whatever the decoder reads, the encoder writes back byte for byte. Cites R145, R160, R162, R163. -/
def Obligations.EncodeUndoesDecode : Prop :=
  ∀ (bytes : List Byte) (i : Instr) (rest : List Byte), decode bytes = .ok (i, rest) → encode i ++ rest = bytes

/-- Words written out from the opcode map decode to the instructions they stand for. Cites R145, R160, R161. -/
def Obligations.WrittenOutWordsDecode : Prop :=
  decode [0x69, 0x50] = .ok (.adcImm 0x50, []) ∧ decode [0xDE, 0xFF, 0x00] = .ok (.decAbsX 0x00FF, []) ∧
    decode [0x08] = .ok (.php, []) ∧ decode [0x6C, 0xFF, 0x04] = .ok (.jmpInd 0x04FF, []) ∧
    decode [0xD0, 0xFA] = .ok (.bne 0xFA, []) ∧ decode [0x00, 0xEA, 0x08] = .ok (.brk 0xEA, [0x08]) ∧
    decode [0x81, 0xFF] = .ok (.staIndX 0xFF, []) ∧ decode [0xAA] = .ok (.tax, []) ∧
    decode [0x1E, 0xFF, 0x01] = .ok (.aslAbsX 0x01FF, []) ∧ decode [0xF8] = .ok (.sed, []) ∧
    decode [0x02] = .error (.unmapped 0x02) ∧ decode [0x80, 0x00] = .error (.unmapped 0x80)

/-- Every step keeps the status bits legal, the storages canonical and the cartridge its own. Cites R25, R74, R77,
R102, R405. The canonical form is the model's (log 9). -/
def Obligations.EveryStepKeepsTheInvariant : Prop :=
  ∀ s t : State, s.Inv → step s = .next t → t.Inv ∧ t.cart = s.cart

/-- Every host operation keeps the invariant, and construction establishes it. Cites R25, R74, R450, R470. The
canonical form is the model's (log 9). -/
def Obligations.HostOperationsKeepTheInvariant : Prop :=
  (∀ (c : Cartridge) (s : State), construct c = .next s → s.Inv) ∧
    ∀ s : State, s.Inv →
      s.cpuReset.Inv ∧ (hostStep s).1.Inv ∧ (clock s).1.Inv ∧ (onScanline s).1.Inv ∧ (mapperReset s).Inv ∧
        (∀ address : Int, (hostRead s address).1.Inv) ∧
        (∀ (address data : Int) (t : State), hostWrite s address data = .next t → t.Inv) ∧
        ∀ (a : Int) (v : Byte) (t : State), ppuWrite s a v = .next t → t.Inv

/-- The reset state has the invariant and the spec's reset values. Cites R450, R451, R452. The cartridge of
State.reset and the byte its blank ROM reads are the model's choice (log 2, log 3). -/
def Obligations.ResetHasTheInvariant : Prop :=
  State.reset.Inv ∧ State.reset.a = 0 ∧ State.reset.x = 0 ∧ State.reset.y = 0 ∧ State.reset.sp = 0xFD ∧
    State.reset.p = 0x24 ∧ State.reset.cyclesRemaining = 0 ∧ State.reset.fault = none ∧
    State.reset.pc = State.reset.read 0xFFFD ++ State.reset.read 0xFFFC ∧
    construct State.reset.cart = .next State.reset

/-- The MMC3 interrupt state influences nothing a step does but the interrupt state itself. Cites R28, R120, R410. -/
def Obligations.PendingInterruptNeverReachesTheCpu : Prop :=
  ∀ (s : State) (r q : Mmc3), s.mapper = .mmc3 r →
    (let s' : State := { s with mapper := .mmc3 (withInterruptOf r q) }
    (∀ f, step s = .fault f ↔ step s' = .fault f) ∧
      ∀ t, step s = .next t → ∃ u q' : Mmc3, t.mapper = .mmc3 u ∧
        step s' = .next { t with mapper := .mmc3 (withInterruptOf u q') })

/-- push, pop, push16 and pop16: order, wrap and the stack page. Cites R60, R61, R62, R63. -/
def Obligations.StackPrimitivesStayInPageOne : Prop :=
  ∀ (s : State) (v : Byte) (w : Word),
    s.push v = { s.write (stackByte s.sp) v with sp := s.sp - 1 } ∧
    (s.popValue = s.read (stackByte (s.sp + 1)) ∧ s.popped = { s with sp := s.sp + 1 }) ∧
    s.push16 w = (s.push ((w >>> 8).setWidth 8)).push (w.setWidth 8) ∧
    (s.pop16Value = s.popped.popValue ++ s.popValue ∧ s.popped16 = s.popped.popped) ∧
    (s.push16 w).pop16Value = w ∧ (s.push16 w).popped16.sp = s.sp ∧
    (stackByte v).toNat = 256 + v.toNat
end

