-- ==== Sys2Proof/Laws/State.lean ====
section
/-! SUPPORT. What each field reads after each single-field write of Machine/Registers.lean: one lemma per field per update. -/

namespace Sys2Proof.Machine

/-! ### setA -/

@[simp] theorem State.setA_a (s : State) (v : Byte) : (s.setA v).a = v := rfl
@[simp] theorem State.setA_x (s : State) (v : Byte) : (s.setA v).x = s.x := rfl
@[simp] theorem State.setA_y (s : State) (v : Byte) : (s.setA v).y = s.y := rfl
@[simp] theorem State.setA_sp (s : State) (v : Byte) : (s.setA v).sp = s.sp := rfl
@[simp] theorem State.setA_p (s : State) (v : Byte) : (s.setA v).p = s.p := rfl
@[simp] theorem State.setA_pc (s : State) (v : Byte) : (s.setA v).pc = s.pc := rfl
@[simp] theorem State.setA_cyclesRemaining (s : State) (v : Byte) : (s.setA v).cyclesRemaining = s.cyclesRemaining := rfl
@[simp] theorem State.setA_fault (s : State) (v : Byte) : (s.setA v).fault = s.fault := rfl
@[simp] theorem State.setA_ram (s : State) (v : Byte) : (s.setA v).ram = s.ram := rfl
@[simp] theorem State.setA_ppuRegs (s : State) (v : Byte) : (s.setA v).ppuRegs = s.ppuRegs := rfl
@[simp] theorem State.setA_apuRegs (s : State) (v : Byte) : (s.setA v).apuRegs = s.apuRegs := rfl
@[simp] theorem State.setA_trace (s : State) (v : Byte) : (s.setA v).trace = s.trace := rfl
@[simp] theorem State.setA_cart (s : State) (v : Byte) : (s.setA v).cart = s.cart := rfl
@[simp] theorem State.setA_mapper (s : State) (v : Byte) : (s.setA v).mapper = s.mapper := rfl
@[simp] theorem State.setA_mirroring (s : State) (v : Byte) : (s.setA v).mirroring = s.mirroring := rfl
@[simp] theorem State.setA_prgRam (s : State) (v : Byte) : (s.setA v).prgRam = s.prgRam := rfl
@[simp] theorem State.setA_chrRam (s : State) (v : Byte) : (s.setA v).chrRam = s.chrRam := rfl
@[simp] theorem State.setA_drawIndex (s : State) (v : Byte) : (s.setA v).drawIndex = s.drawIndex := rfl
@[simp] theorem State.setA_cartRamDraw (s : State) (v : Byte) : (s.setA v).cartRamDraw = s.cartRamDraw := rfl

/-! ### setX -/

@[simp] theorem State.setX_a (s : State) (v : Byte) : (s.setX v).a = s.a := rfl
@[simp] theorem State.setX_x (s : State) (v : Byte) : (s.setX v).x = v := rfl
@[simp] theorem State.setX_y (s : State) (v : Byte) : (s.setX v).y = s.y := rfl
@[simp] theorem State.setX_sp (s : State) (v : Byte) : (s.setX v).sp = s.sp := rfl
@[simp] theorem State.setX_p (s : State) (v : Byte) : (s.setX v).p = s.p := rfl
@[simp] theorem State.setX_pc (s : State) (v : Byte) : (s.setX v).pc = s.pc := rfl
@[simp] theorem State.setX_cyclesRemaining (s : State) (v : Byte) : (s.setX v).cyclesRemaining = s.cyclesRemaining := rfl
@[simp] theorem State.setX_fault (s : State) (v : Byte) : (s.setX v).fault = s.fault := rfl
@[simp] theorem State.setX_ram (s : State) (v : Byte) : (s.setX v).ram = s.ram := rfl
@[simp] theorem State.setX_ppuRegs (s : State) (v : Byte) : (s.setX v).ppuRegs = s.ppuRegs := rfl
@[simp] theorem State.setX_apuRegs (s : State) (v : Byte) : (s.setX v).apuRegs = s.apuRegs := rfl
@[simp] theorem State.setX_trace (s : State) (v : Byte) : (s.setX v).trace = s.trace := rfl
@[simp] theorem State.setX_cart (s : State) (v : Byte) : (s.setX v).cart = s.cart := rfl
@[simp] theorem State.setX_mapper (s : State) (v : Byte) : (s.setX v).mapper = s.mapper := rfl
@[simp] theorem State.setX_mirroring (s : State) (v : Byte) : (s.setX v).mirroring = s.mirroring := rfl
@[simp] theorem State.setX_prgRam (s : State) (v : Byte) : (s.setX v).prgRam = s.prgRam := rfl
@[simp] theorem State.setX_chrRam (s : State) (v : Byte) : (s.setX v).chrRam = s.chrRam := rfl
@[simp] theorem State.setX_drawIndex (s : State) (v : Byte) : (s.setX v).drawIndex = s.drawIndex := rfl
@[simp] theorem State.setX_cartRamDraw (s : State) (v : Byte) : (s.setX v).cartRamDraw = s.cartRamDraw := rfl

/-! ### setY -/

@[simp] theorem State.setY_a (s : State) (v : Byte) : (s.setY v).a = s.a := rfl
@[simp] theorem State.setY_x (s : State) (v : Byte) : (s.setY v).x = s.x := rfl
@[simp] theorem State.setY_y (s : State) (v : Byte) : (s.setY v).y = v := rfl
@[simp] theorem State.setY_sp (s : State) (v : Byte) : (s.setY v).sp = s.sp := rfl
@[simp] theorem State.setY_p (s : State) (v : Byte) : (s.setY v).p = s.p := rfl
@[simp] theorem State.setY_pc (s : State) (v : Byte) : (s.setY v).pc = s.pc := rfl
@[simp] theorem State.setY_cyclesRemaining (s : State) (v : Byte) : (s.setY v).cyclesRemaining = s.cyclesRemaining := rfl
@[simp] theorem State.setY_fault (s : State) (v : Byte) : (s.setY v).fault = s.fault := rfl
@[simp] theorem State.setY_ram (s : State) (v : Byte) : (s.setY v).ram = s.ram := rfl
@[simp] theorem State.setY_ppuRegs (s : State) (v : Byte) : (s.setY v).ppuRegs = s.ppuRegs := rfl
@[simp] theorem State.setY_apuRegs (s : State) (v : Byte) : (s.setY v).apuRegs = s.apuRegs := rfl
@[simp] theorem State.setY_trace (s : State) (v : Byte) : (s.setY v).trace = s.trace := rfl
@[simp] theorem State.setY_cart (s : State) (v : Byte) : (s.setY v).cart = s.cart := rfl
@[simp] theorem State.setY_mapper (s : State) (v : Byte) : (s.setY v).mapper = s.mapper := rfl
@[simp] theorem State.setY_mirroring (s : State) (v : Byte) : (s.setY v).mirroring = s.mirroring := rfl
@[simp] theorem State.setY_prgRam (s : State) (v : Byte) : (s.setY v).prgRam = s.prgRam := rfl
@[simp] theorem State.setY_chrRam (s : State) (v : Byte) : (s.setY v).chrRam = s.chrRam := rfl
@[simp] theorem State.setY_drawIndex (s : State) (v : Byte) : (s.setY v).drawIndex = s.drawIndex := rfl
@[simp] theorem State.setY_cartRamDraw (s : State) (v : Byte) : (s.setY v).cartRamDraw = s.cartRamDraw := rfl

/-! ### setSp -/

@[simp] theorem State.setSp_a (s : State) (v : Byte) : (s.setSp v).a = s.a := rfl
@[simp] theorem State.setSp_x (s : State) (v : Byte) : (s.setSp v).x = s.x := rfl
@[simp] theorem State.setSp_y (s : State) (v : Byte) : (s.setSp v).y = s.y := rfl
@[simp] theorem State.setSp_sp (s : State) (v : Byte) : (s.setSp v).sp = v := rfl
@[simp] theorem State.setSp_p (s : State) (v : Byte) : (s.setSp v).p = s.p := rfl
@[simp] theorem State.setSp_pc (s : State) (v : Byte) : (s.setSp v).pc = s.pc := rfl
@[simp] theorem State.setSp_cyclesRemaining (s : State) (v : Byte) : (s.setSp v).cyclesRemaining = s.cyclesRemaining := rfl
@[simp] theorem State.setSp_fault (s : State) (v : Byte) : (s.setSp v).fault = s.fault := rfl
@[simp] theorem State.setSp_ram (s : State) (v : Byte) : (s.setSp v).ram = s.ram := rfl
@[simp] theorem State.setSp_ppuRegs (s : State) (v : Byte) : (s.setSp v).ppuRegs = s.ppuRegs := rfl
@[simp] theorem State.setSp_apuRegs (s : State) (v : Byte) : (s.setSp v).apuRegs = s.apuRegs := rfl
@[simp] theorem State.setSp_trace (s : State) (v : Byte) : (s.setSp v).trace = s.trace := rfl
@[simp] theorem State.setSp_cart (s : State) (v : Byte) : (s.setSp v).cart = s.cart := rfl
@[simp] theorem State.setSp_mapper (s : State) (v : Byte) : (s.setSp v).mapper = s.mapper := rfl
@[simp] theorem State.setSp_mirroring (s : State) (v : Byte) : (s.setSp v).mirroring = s.mirroring := rfl
@[simp] theorem State.setSp_prgRam (s : State) (v : Byte) : (s.setSp v).prgRam = s.prgRam := rfl
@[simp] theorem State.setSp_chrRam (s : State) (v : Byte) : (s.setSp v).chrRam = s.chrRam := rfl
@[simp] theorem State.setSp_drawIndex (s : State) (v : Byte) : (s.setSp v).drawIndex = s.drawIndex := rfl
@[simp] theorem State.setSp_cartRamDraw (s : State) (v : Byte) : (s.setSp v).cartRamDraw = s.cartRamDraw := rfl

/-! ### setP -/

@[simp] theorem State.setP_a (s : State) (v : Byte) : (s.setP v).a = s.a := rfl
@[simp] theorem State.setP_x (s : State) (v : Byte) : (s.setP v).x = s.x := rfl
@[simp] theorem State.setP_y (s : State) (v : Byte) : (s.setP v).y = s.y := rfl
@[simp] theorem State.setP_sp (s : State) (v : Byte) : (s.setP v).sp = s.sp := rfl
@[simp] theorem State.setP_p (s : State) (v : Byte) : (s.setP v).p = v := rfl
@[simp] theorem State.setP_pc (s : State) (v : Byte) : (s.setP v).pc = s.pc := rfl
@[simp] theorem State.setP_cyclesRemaining (s : State) (v : Byte) : (s.setP v).cyclesRemaining = s.cyclesRemaining := rfl
@[simp] theorem State.setP_fault (s : State) (v : Byte) : (s.setP v).fault = s.fault := rfl
@[simp] theorem State.setP_ram (s : State) (v : Byte) : (s.setP v).ram = s.ram := rfl
@[simp] theorem State.setP_ppuRegs (s : State) (v : Byte) : (s.setP v).ppuRegs = s.ppuRegs := rfl
@[simp] theorem State.setP_apuRegs (s : State) (v : Byte) : (s.setP v).apuRegs = s.apuRegs := rfl
@[simp] theorem State.setP_trace (s : State) (v : Byte) : (s.setP v).trace = s.trace := rfl
@[simp] theorem State.setP_cart (s : State) (v : Byte) : (s.setP v).cart = s.cart := rfl
@[simp] theorem State.setP_mapper (s : State) (v : Byte) : (s.setP v).mapper = s.mapper := rfl
@[simp] theorem State.setP_mirroring (s : State) (v : Byte) : (s.setP v).mirroring = s.mirroring := rfl
@[simp] theorem State.setP_prgRam (s : State) (v : Byte) : (s.setP v).prgRam = s.prgRam := rfl
@[simp] theorem State.setP_chrRam (s : State) (v : Byte) : (s.setP v).chrRam = s.chrRam := rfl
@[simp] theorem State.setP_drawIndex (s : State) (v : Byte) : (s.setP v).drawIndex = s.drawIndex := rfl
@[simp] theorem State.setP_cartRamDraw (s : State) (v : Byte) : (s.setP v).cartRamDraw = s.cartRamDraw := rfl

/-! ### setPc -/

@[simp] theorem State.setPc_a (s : State) (v : Word) : (s.setPc v).a = s.a := rfl
@[simp] theorem State.setPc_x (s : State) (v : Word) : (s.setPc v).x = s.x := rfl
@[simp] theorem State.setPc_y (s : State) (v : Word) : (s.setPc v).y = s.y := rfl
@[simp] theorem State.setPc_sp (s : State) (v : Word) : (s.setPc v).sp = s.sp := rfl
@[simp] theorem State.setPc_p (s : State) (v : Word) : (s.setPc v).p = s.p := rfl
@[simp] theorem State.setPc_pc (s : State) (v : Word) : (s.setPc v).pc = v := rfl
@[simp] theorem State.setPc_cyclesRemaining (s : State) (v : Word) : (s.setPc v).cyclesRemaining = s.cyclesRemaining := rfl
@[simp] theorem State.setPc_fault (s : State) (v : Word) : (s.setPc v).fault = s.fault := rfl
@[simp] theorem State.setPc_ram (s : State) (v : Word) : (s.setPc v).ram = s.ram := rfl
@[simp] theorem State.setPc_ppuRegs (s : State) (v : Word) : (s.setPc v).ppuRegs = s.ppuRegs := rfl
@[simp] theorem State.setPc_apuRegs (s : State) (v : Word) : (s.setPc v).apuRegs = s.apuRegs := rfl
@[simp] theorem State.setPc_trace (s : State) (v : Word) : (s.setPc v).trace = s.trace := rfl
@[simp] theorem State.setPc_cart (s : State) (v : Word) : (s.setPc v).cart = s.cart := rfl
@[simp] theorem State.setPc_mapper (s : State) (v : Word) : (s.setPc v).mapper = s.mapper := rfl
@[simp] theorem State.setPc_mirroring (s : State) (v : Word) : (s.setPc v).mirroring = s.mirroring := rfl
@[simp] theorem State.setPc_prgRam (s : State) (v : Word) : (s.setPc v).prgRam = s.prgRam := rfl
@[simp] theorem State.setPc_chrRam (s : State) (v : Word) : (s.setPc v).chrRam = s.chrRam := rfl
@[simp] theorem State.setPc_drawIndex (s : State) (v : Word) : (s.setPc v).drawIndex = s.drawIndex := rfl
@[simp] theorem State.setPc_cartRamDraw (s : State) (v : Word) : (s.setPc v).cartRamDraw = s.cartRamDraw := rfl

/-! ### setRam -/

@[simp] theorem State.setRam_a (s : State) (m : Mem) : (s.setRam m).a = s.a := rfl
@[simp] theorem State.setRam_x (s : State) (m : Mem) : (s.setRam m).x = s.x := rfl
@[simp] theorem State.setRam_y (s : State) (m : Mem) : (s.setRam m).y = s.y := rfl
@[simp] theorem State.setRam_sp (s : State) (m : Mem) : (s.setRam m).sp = s.sp := rfl
@[simp] theorem State.setRam_p (s : State) (m : Mem) : (s.setRam m).p = s.p := rfl
@[simp] theorem State.setRam_pc (s : State) (m : Mem) : (s.setRam m).pc = s.pc := rfl
@[simp] theorem State.setRam_cyclesRemaining (s : State) (m : Mem) : (s.setRam m).cyclesRemaining = s.cyclesRemaining := rfl
@[simp] theorem State.setRam_fault (s : State) (m : Mem) : (s.setRam m).fault = s.fault := rfl
@[simp] theorem State.setRam_ram (s : State) (m : Mem) : (s.setRam m).ram = m := rfl
@[simp] theorem State.setRam_ppuRegs (s : State) (m : Mem) : (s.setRam m).ppuRegs = s.ppuRegs := rfl
@[simp] theorem State.setRam_apuRegs (s : State) (m : Mem) : (s.setRam m).apuRegs = s.apuRegs := rfl
@[simp] theorem State.setRam_trace (s : State) (m : Mem) : (s.setRam m).trace = s.trace := rfl
@[simp] theorem State.setRam_cart (s : State) (m : Mem) : (s.setRam m).cart = s.cart := rfl
@[simp] theorem State.setRam_mapper (s : State) (m : Mem) : (s.setRam m).mapper = s.mapper := rfl
@[simp] theorem State.setRam_mirroring (s : State) (m : Mem) : (s.setRam m).mirroring = s.mirroring := rfl
@[simp] theorem State.setRam_prgRam (s : State) (m : Mem) : (s.setRam m).prgRam = s.prgRam := rfl
@[simp] theorem State.setRam_chrRam (s : State) (m : Mem) : (s.setRam m).chrRam = s.chrRam := rfl
@[simp] theorem State.setRam_drawIndex (s : State) (m : Mem) : (s.setRam m).drawIndex = s.drawIndex := rfl
@[simp] theorem State.setRam_cartRamDraw (s : State) (m : Mem) : (s.setRam m).cartRamDraw = s.cartRamDraw := rfl

/-! ### setPpuRegs -/

@[simp] theorem State.setPpuRegs_a (s : State) (m : Mem) : (s.setPpuRegs m).a = s.a := rfl
@[simp] theorem State.setPpuRegs_x (s : State) (m : Mem) : (s.setPpuRegs m).x = s.x := rfl
@[simp] theorem State.setPpuRegs_y (s : State) (m : Mem) : (s.setPpuRegs m).y = s.y := rfl
@[simp] theorem State.setPpuRegs_sp (s : State) (m : Mem) : (s.setPpuRegs m).sp = s.sp := rfl
@[simp] theorem State.setPpuRegs_p (s : State) (m : Mem) : (s.setPpuRegs m).p = s.p := rfl
@[simp] theorem State.setPpuRegs_pc (s : State) (m : Mem) : (s.setPpuRegs m).pc = s.pc := rfl
@[simp] theorem State.setPpuRegs_cyclesRemaining (s : State) (m : Mem) : (s.setPpuRegs m).cyclesRemaining = s.cyclesRemaining := rfl
@[simp] theorem State.setPpuRegs_fault (s : State) (m : Mem) : (s.setPpuRegs m).fault = s.fault := rfl
@[simp] theorem State.setPpuRegs_ram (s : State) (m : Mem) : (s.setPpuRegs m).ram = s.ram := rfl
@[simp] theorem State.setPpuRegs_ppuRegs (s : State) (m : Mem) : (s.setPpuRegs m).ppuRegs = m := rfl
@[simp] theorem State.setPpuRegs_apuRegs (s : State) (m : Mem) : (s.setPpuRegs m).apuRegs = s.apuRegs := rfl
@[simp] theorem State.setPpuRegs_trace (s : State) (m : Mem) : (s.setPpuRegs m).trace = s.trace := rfl
@[simp] theorem State.setPpuRegs_cart (s : State) (m : Mem) : (s.setPpuRegs m).cart = s.cart := rfl
@[simp] theorem State.setPpuRegs_mapper (s : State) (m : Mem) : (s.setPpuRegs m).mapper = s.mapper := rfl
@[simp] theorem State.setPpuRegs_mirroring (s : State) (m : Mem) : (s.setPpuRegs m).mirroring = s.mirroring := rfl
@[simp] theorem State.setPpuRegs_prgRam (s : State) (m : Mem) : (s.setPpuRegs m).prgRam = s.prgRam := rfl
@[simp] theorem State.setPpuRegs_chrRam (s : State) (m : Mem) : (s.setPpuRegs m).chrRam = s.chrRam := rfl
@[simp] theorem State.setPpuRegs_drawIndex (s : State) (m : Mem) : (s.setPpuRegs m).drawIndex = s.drawIndex := rfl
@[simp] theorem State.setPpuRegs_cartRamDraw (s : State) (m : Mem) : (s.setPpuRegs m).cartRamDraw = s.cartRamDraw := rfl

/-! ### setApuRegs -/

@[simp] theorem State.setApuRegs_a (s : State) (m : Mem) : (s.setApuRegs m).a = s.a := rfl
@[simp] theorem State.setApuRegs_x (s : State) (m : Mem) : (s.setApuRegs m).x = s.x := rfl
@[simp] theorem State.setApuRegs_y (s : State) (m : Mem) : (s.setApuRegs m).y = s.y := rfl
@[simp] theorem State.setApuRegs_sp (s : State) (m : Mem) : (s.setApuRegs m).sp = s.sp := rfl
@[simp] theorem State.setApuRegs_p (s : State) (m : Mem) : (s.setApuRegs m).p = s.p := rfl
@[simp] theorem State.setApuRegs_pc (s : State) (m : Mem) : (s.setApuRegs m).pc = s.pc := rfl
@[simp] theorem State.setApuRegs_cyclesRemaining (s : State) (m : Mem) : (s.setApuRegs m).cyclesRemaining = s.cyclesRemaining := rfl
@[simp] theorem State.setApuRegs_fault (s : State) (m : Mem) : (s.setApuRegs m).fault = s.fault := rfl
@[simp] theorem State.setApuRegs_ram (s : State) (m : Mem) : (s.setApuRegs m).ram = s.ram := rfl
@[simp] theorem State.setApuRegs_ppuRegs (s : State) (m : Mem) : (s.setApuRegs m).ppuRegs = s.ppuRegs := rfl
@[simp] theorem State.setApuRegs_apuRegs (s : State) (m : Mem) : (s.setApuRegs m).apuRegs = m := rfl
@[simp] theorem State.setApuRegs_trace (s : State) (m : Mem) : (s.setApuRegs m).trace = s.trace := rfl
@[simp] theorem State.setApuRegs_cart (s : State) (m : Mem) : (s.setApuRegs m).cart = s.cart := rfl
@[simp] theorem State.setApuRegs_mapper (s : State) (m : Mem) : (s.setApuRegs m).mapper = s.mapper := rfl
@[simp] theorem State.setApuRegs_mirroring (s : State) (m : Mem) : (s.setApuRegs m).mirroring = s.mirroring := rfl
@[simp] theorem State.setApuRegs_prgRam (s : State) (m : Mem) : (s.setApuRegs m).prgRam = s.prgRam := rfl
@[simp] theorem State.setApuRegs_chrRam (s : State) (m : Mem) : (s.setApuRegs m).chrRam = s.chrRam := rfl
@[simp] theorem State.setApuRegs_drawIndex (s : State) (m : Mem) : (s.setApuRegs m).drawIndex = s.drawIndex := rfl
@[simp] theorem State.setApuRegs_cartRamDraw (s : State) (m : Mem) : (s.setApuRegs m).cartRamDraw = s.cartRamDraw := rfl

/-! ### setPrgRam -/

@[simp] theorem State.setPrgRam_a (s : State) (m : Mem) : (s.setPrgRam m).a = s.a := rfl
@[simp] theorem State.setPrgRam_x (s : State) (m : Mem) : (s.setPrgRam m).x = s.x := rfl
@[simp] theorem State.setPrgRam_y (s : State) (m : Mem) : (s.setPrgRam m).y = s.y := rfl
@[simp] theorem State.setPrgRam_sp (s : State) (m : Mem) : (s.setPrgRam m).sp = s.sp := rfl
@[simp] theorem State.setPrgRam_p (s : State) (m : Mem) : (s.setPrgRam m).p = s.p := rfl
@[simp] theorem State.setPrgRam_pc (s : State) (m : Mem) : (s.setPrgRam m).pc = s.pc := rfl
@[simp] theorem State.setPrgRam_cyclesRemaining (s : State) (m : Mem) : (s.setPrgRam m).cyclesRemaining = s.cyclesRemaining := rfl
@[simp] theorem State.setPrgRam_fault (s : State) (m : Mem) : (s.setPrgRam m).fault = s.fault := rfl
@[simp] theorem State.setPrgRam_ram (s : State) (m : Mem) : (s.setPrgRam m).ram = s.ram := rfl
@[simp] theorem State.setPrgRam_ppuRegs (s : State) (m : Mem) : (s.setPrgRam m).ppuRegs = s.ppuRegs := rfl
@[simp] theorem State.setPrgRam_apuRegs (s : State) (m : Mem) : (s.setPrgRam m).apuRegs = s.apuRegs := rfl
@[simp] theorem State.setPrgRam_trace (s : State) (m : Mem) : (s.setPrgRam m).trace = s.trace := rfl
@[simp] theorem State.setPrgRam_cart (s : State) (m : Mem) : (s.setPrgRam m).cart = s.cart := rfl
@[simp] theorem State.setPrgRam_mapper (s : State) (m : Mem) : (s.setPrgRam m).mapper = s.mapper := rfl
@[simp] theorem State.setPrgRam_mirroring (s : State) (m : Mem) : (s.setPrgRam m).mirroring = s.mirroring := rfl
@[simp] theorem State.setPrgRam_prgRam (s : State) (m : Mem) : (s.setPrgRam m).prgRam = m := rfl
@[simp] theorem State.setPrgRam_chrRam (s : State) (m : Mem) : (s.setPrgRam m).chrRam = s.chrRam := rfl
@[simp] theorem State.setPrgRam_drawIndex (s : State) (m : Mem) : (s.setPrgRam m).drawIndex = s.drawIndex := rfl
@[simp] theorem State.setPrgRam_cartRamDraw (s : State) (m : Mem) : (s.setPrgRam m).cartRamDraw = s.cartRamDraw := rfl

/-! ### setChrRam -/

@[simp] theorem State.setChrRam_a (s : State) (m : Mem) : (s.setChrRam m).a = s.a := rfl
@[simp] theorem State.setChrRam_x (s : State) (m : Mem) : (s.setChrRam m).x = s.x := rfl
@[simp] theorem State.setChrRam_y (s : State) (m : Mem) : (s.setChrRam m).y = s.y := rfl
@[simp] theorem State.setChrRam_sp (s : State) (m : Mem) : (s.setChrRam m).sp = s.sp := rfl
@[simp] theorem State.setChrRam_p (s : State) (m : Mem) : (s.setChrRam m).p = s.p := rfl
@[simp] theorem State.setChrRam_pc (s : State) (m : Mem) : (s.setChrRam m).pc = s.pc := rfl
@[simp] theorem State.setChrRam_cyclesRemaining (s : State) (m : Mem) : (s.setChrRam m).cyclesRemaining = s.cyclesRemaining := rfl
@[simp] theorem State.setChrRam_fault (s : State) (m : Mem) : (s.setChrRam m).fault = s.fault := rfl
@[simp] theorem State.setChrRam_ram (s : State) (m : Mem) : (s.setChrRam m).ram = s.ram := rfl
@[simp] theorem State.setChrRam_ppuRegs (s : State) (m : Mem) : (s.setChrRam m).ppuRegs = s.ppuRegs := rfl
@[simp] theorem State.setChrRam_apuRegs (s : State) (m : Mem) : (s.setChrRam m).apuRegs = s.apuRegs := rfl
@[simp] theorem State.setChrRam_trace (s : State) (m : Mem) : (s.setChrRam m).trace = s.trace := rfl
@[simp] theorem State.setChrRam_cart (s : State) (m : Mem) : (s.setChrRam m).cart = s.cart := rfl
@[simp] theorem State.setChrRam_mapper (s : State) (m : Mem) : (s.setChrRam m).mapper = s.mapper := rfl
@[simp] theorem State.setChrRam_mirroring (s : State) (m : Mem) : (s.setChrRam m).mirroring = s.mirroring := rfl
@[simp] theorem State.setChrRam_prgRam (s : State) (m : Mem) : (s.setChrRam m).prgRam = s.prgRam := rfl
@[simp] theorem State.setChrRam_chrRam (s : State) (m : Mem) : (s.setChrRam m).chrRam = m := rfl
@[simp] theorem State.setChrRam_drawIndex (s : State) (m : Mem) : (s.setChrRam m).drawIndex = s.drawIndex := rfl
@[simp] theorem State.setChrRam_cartRamDraw (s : State) (m : Mem) : (s.setChrRam m).cartRamDraw = s.cartRamDraw := rfl

/-! ### setMapper -/

@[simp] theorem State.setMapper_a (s : State) (m : Mapper) : (s.setMapper m).a = s.a := rfl
@[simp] theorem State.setMapper_x (s : State) (m : Mapper) : (s.setMapper m).x = s.x := rfl
@[simp] theorem State.setMapper_y (s : State) (m : Mapper) : (s.setMapper m).y = s.y := rfl
@[simp] theorem State.setMapper_sp (s : State) (m : Mapper) : (s.setMapper m).sp = s.sp := rfl
@[simp] theorem State.setMapper_p (s : State) (m : Mapper) : (s.setMapper m).p = s.p := rfl
@[simp] theorem State.setMapper_pc (s : State) (m : Mapper) : (s.setMapper m).pc = s.pc := rfl
@[simp] theorem State.setMapper_cyclesRemaining (s : State) (m : Mapper) : (s.setMapper m).cyclesRemaining = s.cyclesRemaining := rfl
@[simp] theorem State.setMapper_fault (s : State) (m : Mapper) : (s.setMapper m).fault = s.fault := rfl
@[simp] theorem State.setMapper_ram (s : State) (m : Mapper) : (s.setMapper m).ram = s.ram := rfl
@[simp] theorem State.setMapper_ppuRegs (s : State) (m : Mapper) : (s.setMapper m).ppuRegs = s.ppuRegs := rfl
@[simp] theorem State.setMapper_apuRegs (s : State) (m : Mapper) : (s.setMapper m).apuRegs = s.apuRegs := rfl
@[simp] theorem State.setMapper_trace (s : State) (m : Mapper) : (s.setMapper m).trace = s.trace := rfl
@[simp] theorem State.setMapper_cart (s : State) (m : Mapper) : (s.setMapper m).cart = s.cart := rfl
@[simp] theorem State.setMapper_mapper (s : State) (m : Mapper) : (s.setMapper m).mapper = m := rfl
@[simp] theorem State.setMapper_mirroring (s : State) (m : Mapper) : (s.setMapper m).mirroring = s.mirroring := rfl
@[simp] theorem State.setMapper_prgRam (s : State) (m : Mapper) : (s.setMapper m).prgRam = s.prgRam := rfl
@[simp] theorem State.setMapper_chrRam (s : State) (m : Mapper) : (s.setMapper m).chrRam = s.chrRam := rfl
@[simp] theorem State.setMapper_drawIndex (s : State) (m : Mapper) : (s.setMapper m).drawIndex = s.drawIndex := rfl
@[simp] theorem State.setMapper_cartRamDraw (s : State) (m : Mapper) : (s.setMapper m).cartRamDraw = s.cartRamDraw := rfl

/-! ### setMirroring -/

@[simp] theorem State.setMirroring_a (s : State) (m : Mirroring) : (s.setMirroring m).a = s.a := rfl
@[simp] theorem State.setMirroring_x (s : State) (m : Mirroring) : (s.setMirroring m).x = s.x := rfl
@[simp] theorem State.setMirroring_y (s : State) (m : Mirroring) : (s.setMirroring m).y = s.y := rfl
@[simp] theorem State.setMirroring_sp (s : State) (m : Mirroring) : (s.setMirroring m).sp = s.sp := rfl
@[simp] theorem State.setMirroring_p (s : State) (m : Mirroring) : (s.setMirroring m).p = s.p := rfl
@[simp] theorem State.setMirroring_pc (s : State) (m : Mirroring) : (s.setMirroring m).pc = s.pc := rfl
@[simp] theorem State.setMirroring_cyclesRemaining (s : State) (m : Mirroring) : (s.setMirroring m).cyclesRemaining = s.cyclesRemaining := rfl
@[simp] theorem State.setMirroring_fault (s : State) (m : Mirroring) : (s.setMirroring m).fault = s.fault := rfl
@[simp] theorem State.setMirroring_ram (s : State) (m : Mirroring) : (s.setMirroring m).ram = s.ram := rfl
@[simp] theorem State.setMirroring_ppuRegs (s : State) (m : Mirroring) : (s.setMirroring m).ppuRegs = s.ppuRegs := rfl
@[simp] theorem State.setMirroring_apuRegs (s : State) (m : Mirroring) : (s.setMirroring m).apuRegs = s.apuRegs := rfl
@[simp] theorem State.setMirroring_trace (s : State) (m : Mirroring) : (s.setMirroring m).trace = s.trace := rfl
@[simp] theorem State.setMirroring_cart (s : State) (m : Mirroring) : (s.setMirroring m).cart = s.cart := rfl
@[simp] theorem State.setMirroring_mapper (s : State) (m : Mirroring) : (s.setMirroring m).mapper = s.mapper := rfl
@[simp] theorem State.setMirroring_mirroring (s : State) (m : Mirroring) : (s.setMirroring m).mirroring = m := rfl
@[simp] theorem State.setMirroring_prgRam (s : State) (m : Mirroring) : (s.setMirroring m).prgRam = s.prgRam := rfl
@[simp] theorem State.setMirroring_chrRam (s : State) (m : Mirroring) : (s.setMirroring m).chrRam = s.chrRam := rfl
@[simp] theorem State.setMirroring_drawIndex (s : State) (m : Mirroring) : (s.setMirroring m).drawIndex = s.drawIndex := rfl
@[simp] theorem State.setMirroring_cartRamDraw (s : State) (m : Mirroring) : (s.setMirroring m).cartRamDraw = s.cartRamDraw := rfl

/-! ### emit -/

@[simp] theorem State.emit_a (s : State) (e : Event) : (s.emit e).a = s.a := rfl
@[simp] theorem State.emit_x (s : State) (e : Event) : (s.emit e).x = s.x := rfl
@[simp] theorem State.emit_y (s : State) (e : Event) : (s.emit e).y = s.y := rfl
@[simp] theorem State.emit_sp (s : State) (e : Event) : (s.emit e).sp = s.sp := rfl
@[simp] theorem State.emit_p (s : State) (e : Event) : (s.emit e).p = s.p := rfl
@[simp] theorem State.emit_pc (s : State) (e : Event) : (s.emit e).pc = s.pc := rfl
@[simp] theorem State.emit_cyclesRemaining (s : State) (e : Event) : (s.emit e).cyclesRemaining = s.cyclesRemaining := rfl
@[simp] theorem State.emit_fault (s : State) (e : Event) : (s.emit e).fault = s.fault := rfl
@[simp] theorem State.emit_ram (s : State) (e : Event) : (s.emit e).ram = s.ram := rfl
@[simp] theorem State.emit_ppuRegs (s : State) (e : Event) : (s.emit e).ppuRegs = s.ppuRegs := rfl
@[simp] theorem State.emit_apuRegs (s : State) (e : Event) : (s.emit e).apuRegs = s.apuRegs := rfl
@[simp] theorem State.emit_trace (s : State) (e : Event) : (s.emit e).trace = s.trace ++ [e] := rfl
@[simp] theorem State.emit_cart (s : State) (e : Event) : (s.emit e).cart = s.cart := rfl
@[simp] theorem State.emit_mapper (s : State) (e : Event) : (s.emit e).mapper = s.mapper := rfl
@[simp] theorem State.emit_mirroring (s : State) (e : Event) : (s.emit e).mirroring = s.mirroring := rfl
@[simp] theorem State.emit_prgRam (s : State) (e : Event) : (s.emit e).prgRam = s.prgRam := rfl
@[simp] theorem State.emit_chrRam (s : State) (e : Event) : (s.emit e).chrRam = s.chrRam := rfl
@[simp] theorem State.emit_drawIndex (s : State) (e : Event) : (s.emit e).drawIndex = s.drawIndex := rfl
@[simp] theorem State.emit_cartRamDraw (s : State) (e : Event) : (s.emit e).cartRamDraw = s.cartRamDraw := rfl

/-! ### setCyclesRemaining -/

@[simp] theorem State.setCyclesRemaining_a (s : State) (n : Nat) : (s.setCyclesRemaining n).a = s.a := rfl
@[simp] theorem State.setCyclesRemaining_x (s : State) (n : Nat) : (s.setCyclesRemaining n).x = s.x := rfl
@[simp] theorem State.setCyclesRemaining_y (s : State) (n : Nat) : (s.setCyclesRemaining n).y = s.y := rfl
@[simp] theorem State.setCyclesRemaining_sp (s : State) (n : Nat) : (s.setCyclesRemaining n).sp = s.sp := rfl
@[simp] theorem State.setCyclesRemaining_p (s : State) (n : Nat) : (s.setCyclesRemaining n).p = s.p := rfl
@[simp] theorem State.setCyclesRemaining_pc (s : State) (n : Nat) : (s.setCyclesRemaining n).pc = s.pc := rfl
@[simp] theorem State.setCyclesRemaining_cyclesRemaining (s : State) (n : Nat) : (s.setCyclesRemaining n).cyclesRemaining = n := rfl
@[simp] theorem State.setCyclesRemaining_fault (s : State) (n : Nat) : (s.setCyclesRemaining n).fault = s.fault := rfl
@[simp] theorem State.setCyclesRemaining_ram (s : State) (n : Nat) : (s.setCyclesRemaining n).ram = s.ram := rfl
@[simp] theorem State.setCyclesRemaining_ppuRegs (s : State) (n : Nat) : (s.setCyclesRemaining n).ppuRegs = s.ppuRegs := rfl
@[simp] theorem State.setCyclesRemaining_apuRegs (s : State) (n : Nat) : (s.setCyclesRemaining n).apuRegs = s.apuRegs := rfl
@[simp] theorem State.setCyclesRemaining_trace (s : State) (n : Nat) : (s.setCyclesRemaining n).trace = s.trace := rfl
@[simp] theorem State.setCyclesRemaining_cart (s : State) (n : Nat) : (s.setCyclesRemaining n).cart = s.cart := rfl
@[simp] theorem State.setCyclesRemaining_mapper (s : State) (n : Nat) : (s.setCyclesRemaining n).mapper = s.mapper := rfl
@[simp] theorem State.setCyclesRemaining_mirroring (s : State) (n : Nat) : (s.setCyclesRemaining n).mirroring = s.mirroring := rfl
@[simp] theorem State.setCyclesRemaining_prgRam (s : State) (n : Nat) : (s.setCyclesRemaining n).prgRam = s.prgRam := rfl
@[simp] theorem State.setCyclesRemaining_chrRam (s : State) (n : Nat) : (s.setCyclesRemaining n).chrRam = s.chrRam := rfl
@[simp] theorem State.setCyclesRemaining_drawIndex (s : State) (n : Nat) : (s.setCyclesRemaining n).drawIndex = s.drawIndex := rfl
@[simp] theorem State.setCyclesRemaining_cartRamDraw (s : State) (n : Nat) : (s.setCyclesRemaining n).cartRamDraw = s.cartRamDraw := rfl

/-! ### setFault -/

@[simp] theorem State.setFault_a (s : State) (f : Option Fault) : (s.setFault f).a = s.a := rfl
@[simp] theorem State.setFault_x (s : State) (f : Option Fault) : (s.setFault f).x = s.x := rfl
@[simp] theorem State.setFault_y (s : State) (f : Option Fault) : (s.setFault f).y = s.y := rfl
@[simp] theorem State.setFault_sp (s : State) (f : Option Fault) : (s.setFault f).sp = s.sp := rfl
@[simp] theorem State.setFault_p (s : State) (f : Option Fault) : (s.setFault f).p = s.p := rfl
@[simp] theorem State.setFault_pc (s : State) (f : Option Fault) : (s.setFault f).pc = s.pc := rfl
@[simp] theorem State.setFault_cyclesRemaining (s : State) (f : Option Fault) : (s.setFault f).cyclesRemaining = s.cyclesRemaining := rfl
@[simp] theorem State.setFault_fault (s : State) (f : Option Fault) : (s.setFault f).fault = f := rfl
@[simp] theorem State.setFault_ram (s : State) (f : Option Fault) : (s.setFault f).ram = s.ram := rfl
@[simp] theorem State.setFault_ppuRegs (s : State) (f : Option Fault) : (s.setFault f).ppuRegs = s.ppuRegs := rfl
@[simp] theorem State.setFault_apuRegs (s : State) (f : Option Fault) : (s.setFault f).apuRegs = s.apuRegs := rfl
@[simp] theorem State.setFault_trace (s : State) (f : Option Fault) : (s.setFault f).trace = s.trace := rfl
@[simp] theorem State.setFault_cart (s : State) (f : Option Fault) : (s.setFault f).cart = s.cart := rfl
@[simp] theorem State.setFault_mapper (s : State) (f : Option Fault) : (s.setFault f).mapper = s.mapper := rfl
@[simp] theorem State.setFault_mirroring (s : State) (f : Option Fault) : (s.setFault f).mirroring = s.mirroring := rfl
@[simp] theorem State.setFault_prgRam (s : State) (f : Option Fault) : (s.setFault f).prgRam = s.prgRam := rfl
@[simp] theorem State.setFault_chrRam (s : State) (f : Option Fault) : (s.setFault f).chrRam = s.chrRam := rfl
@[simp] theorem State.setFault_drawIndex (s : State) (f : Option Fault) : (s.setFault f).drawIndex = s.drawIndex := rfl
@[simp] theorem State.setFault_cartRamDraw (s : State) (f : Option Fault) : (s.setFault f).cartRamDraw = s.cartRamDraw := rfl

/-! ### nextDraw -/

@[simp] theorem State.nextDraw_a (s : State) : (s.nextDraw).a = s.a := rfl
@[simp] theorem State.nextDraw_x (s : State) : (s.nextDraw).x = s.x := rfl
@[simp] theorem State.nextDraw_y (s : State) : (s.nextDraw).y = s.y := rfl
@[simp] theorem State.nextDraw_sp (s : State) : (s.nextDraw).sp = s.sp := rfl
@[simp] theorem State.nextDraw_p (s : State) : (s.nextDraw).p = s.p := rfl
@[simp] theorem State.nextDraw_pc (s : State) : (s.nextDraw).pc = s.pc := rfl
@[simp] theorem State.nextDraw_cyclesRemaining (s : State) : (s.nextDraw).cyclesRemaining = s.cyclesRemaining := rfl
@[simp] theorem State.nextDraw_fault (s : State) : (s.nextDraw).fault = s.fault := rfl
@[simp] theorem State.nextDraw_ram (s : State) : (s.nextDraw).ram = s.ram := rfl
@[simp] theorem State.nextDraw_ppuRegs (s : State) : (s.nextDraw).ppuRegs = s.ppuRegs := rfl
@[simp] theorem State.nextDraw_apuRegs (s : State) : (s.nextDraw).apuRegs = s.apuRegs := rfl
@[simp] theorem State.nextDraw_trace (s : State) : (s.nextDraw).trace = s.trace := rfl
@[simp] theorem State.nextDraw_cart (s : State) : (s.nextDraw).cart = s.cart := rfl
@[simp] theorem State.nextDraw_mapper (s : State) : (s.nextDraw).mapper = s.mapper := rfl
@[simp] theorem State.nextDraw_mirroring (s : State) : (s.nextDraw).mirroring = s.mirroring := rfl
@[simp] theorem State.nextDraw_prgRam (s : State) : (s.nextDraw).prgRam = s.prgRam := rfl
@[simp] theorem State.nextDraw_chrRam (s : State) : (s.nextDraw).chrRam = s.chrRam := rfl
@[simp] theorem State.nextDraw_drawIndex (s : State) : (s.nextDraw).drawIndex = s.drawIndex + 1 := rfl
@[simp] theorem State.nextDraw_cartRamDraw (s : State) : (s.nextDraw).cartRamDraw = s.cartRamDraw := rfl

/-! ### advance -/

@[simp] theorem State.advance_a (s : State) (n : Word) : (s.advance n).a = s.a := rfl
@[simp] theorem State.advance_x (s : State) (n : Word) : (s.advance n).x = s.x := rfl
@[simp] theorem State.advance_y (s : State) (n : Word) : (s.advance n).y = s.y := rfl
@[simp] theorem State.advance_sp (s : State) (n : Word) : (s.advance n).sp = s.sp := rfl
@[simp] theorem State.advance_p (s : State) (n : Word) : (s.advance n).p = s.p := rfl
@[simp] theorem State.advance_pc (s : State) (n : Word) : (s.advance n).pc = s.pc + n := rfl
@[simp] theorem State.advance_cyclesRemaining (s : State) (n : Word) : (s.advance n).cyclesRemaining = s.cyclesRemaining := rfl
@[simp] theorem State.advance_fault (s : State) (n : Word) : (s.advance n).fault = s.fault := rfl
@[simp] theorem State.advance_ram (s : State) (n : Word) : (s.advance n).ram = s.ram := rfl
@[simp] theorem State.advance_ppuRegs (s : State) (n : Word) : (s.advance n).ppuRegs = s.ppuRegs := rfl
@[simp] theorem State.advance_apuRegs (s : State) (n : Word) : (s.advance n).apuRegs = s.apuRegs := rfl
@[simp] theorem State.advance_trace (s : State) (n : Word) : (s.advance n).trace = s.trace := rfl
@[simp] theorem State.advance_cart (s : State) (n : Word) : (s.advance n).cart = s.cart := rfl
@[simp] theorem State.advance_mapper (s : State) (n : Word) : (s.advance n).mapper = s.mapper := rfl
@[simp] theorem State.advance_mirroring (s : State) (n : Word) : (s.advance n).mirroring = s.mirroring := rfl
@[simp] theorem State.advance_prgRam (s : State) (n : Word) : (s.advance n).prgRam = s.prgRam := rfl
@[simp] theorem State.advance_chrRam (s : State) (n : Word) : (s.advance n).chrRam = s.chrRam := rfl
@[simp] theorem State.advance_drawIndex (s : State) (n : Word) : (s.advance n).drawIndex = s.drawIndex := rfl
@[simp] theorem State.advance_cartRamDraw (s : State) (n : Word) : (s.advance n).cartRamDraw = s.cartRamDraw := rfl

end Sys2Proof.Machine
end

