-- ==== Sys2Proof/Laws/Flags.lean ====
section
/-! SUPPORT. One bit of P at a time: what `withBit` and the flag updates leave in each bit, and that a flag update changes
P alone. -/

namespace Sys2Proof.Machine

/-- `withBit` sets its own bit and keeps every other. -/
theorem getLsbD_withBit (v : Byte) (k : Nat) (b : Bool) (j : Nat) (hk : k < 8) :
    (withBit v k b).getLsbD j = if j = k then b else v.getLsbD j := by
  unfold withBit
  by_cases hj : j < 8
  · cases b <;> by_cases h : j = k
    · subst h; simp [hj]
    · by_cases h2 : j < k
      · simp [h, h2, hj]
      · have : ¬ (j - k = 0) := by omega
        simp [h, h2, hj, this]
    · subst h; simp [hj]
    · by_cases h2 : j < k
      · simp [h, h2]
      · have : ¬ (j - k = 0) := by omega
        simp [h, BitVec.getLsbD_one, this]
  · have h1 : j ≠ k := by omega
    rw [BitVec.getLsbD_of_ge _ _ (by omega), BitVec.getLsbD_of_ge v _ (by omega)]
    simp [h1]

/-- `getLsbD_withBit` for the bit-indexing form that `simp` normalises to. -/
@[simp] theorem getElem_withBit (v : Byte) (k : Nat) (b : Bool) (j : Nat) (hj : j < 8) (hk : k < 8) :
    (withBit v k b)[j] = if j = k then b else v[j] := by
  rw [← BitVec.getLsbD_eq_getElem, getLsbD_withBit v k b j hk, BitVec.getLsbD_eq_getElem hj]

/-- A flag's bit is a bit of a byte. -/
theorem flagBit_lt (f : Flag) : flagBit f < 8 := by cases f <;> decide

/-- Different flags are different bits. -/
theorem flagBit_inj {f g : Flag} (h : flagBit f = flagBit g) : f = g := by
  revert h; cases f <;> cases g <;> decide

/-- What a flag reads after a write to a flag. -/
@[simp] theorem State.flag_setFlag (s : State) (f g : Flag) (b : Bool) :
    (s.setFlag f b).flag g = if g = f then b else s.flag g := by
  unfold State.flag State.setFlag
  rw [State.setP_p, getLsbD_withBit _ _ _ _ (flagBit_lt f)]
  by_cases h : g = f
  · simp [h]
  · have : flagBit g ≠ flagBit f := fun e => h (flagBit_inj e)
    simp [h, this]

/-- A flag update is a write of P. -/
theorem State.setFlag_eq (s : State) (f : Flag) (b : Bool) : s.setFlag f b = s.setP (withBit s.p (flagBit f) b) := rfl

/-- The Zero/Negative update is a write of P. -/
theorem State.setZN_eq (s : State) (v : Byte) :
    s.setZN v = s.setP (withBit (withBit s.p 1 (v == 0)) 7 (v.getLsbD 7)) := rfl

/-- Compare is a write of P. -/
theorem State.compare_eq (s : State) (r m : Byte) :
    s.compare r m =
      s.setP (withBit (withBit (withBit s.p 0 (decide (m.toNat ≤ r.toNat))) 1 (r - m == 0)) 7 ((r - m).getLsbD 7)) := rfl

/-- BIT is a write of P. -/
theorem State.bitTest_eq (s : State) (m : Byte) :
    s.bitTest m =
      s.setP (withBit (withBit (withBit s.p 1 ((s.a &&& m) == 0)) 7 (m.getLsbD 7)) 6 (m.getLsbD 6)) := rfl

/-- A byte is its eight bits. -/
theorem byte_ext {v w : Byte} (h : ∀ i < 8, v.getLsbD i = w.getLsbD i) : v = w := BitVec.eq_of_getLsbD_eq h

/-- The pushed copy of P has B and U set and every other bit of P (R221). -/
theorem getLsbD_pushedStatus (p : Byte) (j : Nat) (hj : j < 8) :
    (pushedStatus p).getLsbD j = if j = 4 ∨ j = 5 then true else p.getLsbD j := by
  unfold pushedStatus
  have : j = 0 ∨ j = 1 ∨ j = 2 ∨ j = 3 ∨ j = 4 ∨ j = 5 ∨ j = 6 ∨ j = 7 := by omega
  rcases this with rfl | rfl | rfl | rfl | rfl | rfl | rfl | rfl <;> simp

/-- What PLP and RTI load: U set, B clear, every other bit of the pulled byte (R223). -/
theorem getLsbD_pulledStatus (v : Byte) (j : Nat) (hj : j < 8) :
    (pulledStatus v).getLsbD j = if j = 4 then false else if j = 5 then true else v.getLsbD j := by
  unfold pulledStatus
  have : j = 0 ∨ j = 1 ∨ j = 2 ∨ j = 3 ∨ j = 4 ∨ j = 5 ∨ j = 6 ∨ j = 7 := by omega
  rcases this with rfl | rfl | rfl | rfl | rfl | rfl | rfl | rfl <;>
    simp

end Sys2Proof.Machine
end

