-- ==== Sys2Proof/Laws/Memory.lean ====
section
/-! SUPPORT. The byte storages: read after write, and that a write keeps the canonical form. -/

namespace Sys2Proof.Machine

/-- A byte just written is read back. -/
@[simp] theorem Mem.lookup_put_same (k : Nat) (v : Byte) (m : Mem) : Mem.lookup k (Mem.put k v m) = some v := by
  induction m with
  | nil => simp [Mem.put, Mem.lookup]
  | cons c m ih =>
    obtain ⟨j, w⟩ := c
    unfold Mem.put
    split
    · simp [Mem.lookup]
    · split
      · simp [Mem.lookup]
      · rename_i h1 h2
        have : j ≠ k := fun e => h2 e.symm
        simp [Mem.lookup, this, ih]

/-- A write leaves every other index alone. -/
theorem Mem.lookup_put_other {j k : Nat} (h : j ≠ k) (v : Byte) (m : Mem) :
    Mem.lookup j (Mem.put k v m) = Mem.lookup j m := by
  induction m with
  | nil => simp [Mem.put, Mem.lookup, h.symm]
  | cons c m ih =>
    obtain ⟨i, w⟩ := c
    unfold Mem.put
    split
    · simp [Mem.lookup, h.symm]
    · split
      · rename_i h1 h2; subst h2; simp [Mem.lookup, h.symm]
      · simp only [Mem.lookup, ih]

/-- Read after write. -/
theorem Mem.lookup_put (j k : Nat) (v : Byte) (m : Mem) :
    Mem.lookup j (Mem.put k v m) = if j = k then some v else Mem.lookup j m := by
  by_cases h : j = k
  · subst h; simp
  · simp [h, Mem.lookup_put_other h]

/-- A write keeps the indices strictly rising above a bound below it. -/
theorem Mem.risingFrom_put (k : Nat) (v : Byte) (m : Mem) (lo : Option Nat) (hlo : ∀ l, lo = some l → l < k)
    (h : Mem.risingFrom lo m = true) : Mem.risingFrom lo (Mem.put k v m) = true := by
  induction m generalizing lo with
  | nil => cases lo with
    | none => simp [Mem.put, Mem.risingFrom]
    | some l => simpa [Mem.put, Mem.risingFrom] using hlo l rfl
  | cons c m ih =>
    obtain ⟨j, w⟩ := c
    simp only [Mem.risingFrom, Bool.and_eq_true] at h
    unfold Mem.put
    split
    · rename_i hk
      cases lo with
      | none => simp [Mem.risingFrom, hk, h.2]
      | some l => simp [Mem.risingFrom, hk, h.2, hlo l rfl]
    · split
      · rename_i _ hk; subst hk
        simp only [Mem.risingFrom, Bool.and_eq_true]; exact h
      · rename_i h1 h2
        simp only [Mem.risingFrom, Bool.and_eq_true]
        exact ⟨h.1, ih (some j) (by intro l hl; cases hl; omega) h.2⟩

/-- A write inside the storage keeps every index inside. -/
theorem Mem.all_put (P : Nat → Byte → Bool) (k : Nat) (v : Byte) (m : Mem) (hk : P k v = true)
    (h : m.all (fun c => P c.1 c.2) = true) : (Mem.put k v m).all (fun c => P c.1 c.2) = true := by
  induction m with
  | nil => simpa [Mem.put] using hk
  | cons c m ih =>
    obtain ⟨j, w⟩ := c
    simp only [List.all_cons, Bool.and_eq_true] at h
    unfold Mem.put
    split
    · simp only [List.all_cons, Bool.and_eq_true]; exact ⟨hk, h.1, h.2⟩
    · split
      · simp only [List.all_cons, Bool.and_eq_true]; exact ⟨hk, h.2⟩
      · simp only [List.all_cons, Bool.and_eq_true]; exact ⟨h.1, ih h.2⟩

/-- A write inside the storage keeps the canonical form. -/
theorem Mem.wf_put {size k : Nat} (v : Byte) {m : Mem} (hk : k < size) (h : Mem.wf size m = true) :
    Mem.wf size (Mem.put k v m) = true := by
  unfold Mem.wf at *
  simp only [Bool.and_eq_true] at *
  exact ⟨Mem.risingFrom_put k v m none (by intro l hl; cases hl) h.1,
    Mem.all_put (fun j _ => decide (j < size)) k v m (by simpa using hk) h.2⟩

/-- A wider bound is weaker. -/
theorem Mem.risingFrom_weaken {lo : Option Nat} {j : Nat} (hlo : ∀ l, lo = some l → l < j) {m : Mem}
    (h : Mem.risingFrom (some j) m = true) : Mem.risingFrom lo m = true := by
  cases m with
  | nil => rfl
  | cons c m =>
    obtain ⟨i, w⟩ := c
    simp only [Mem.risingFrom, Bool.and_eq_true, decide_eq_true_eq] at h ⊢
    refine ⟨?_, h.2⟩
    cases lo with
    | none => rfl
    | some l => simpa using Nat.lt_trans (hlo l rfl) h.1

/-- Removing an entry keeps the indices strictly rising. -/
theorem Mem.risingFrom_erase (k : Nat) (m : Mem) (lo : Option Nat) (h : Mem.risingFrom lo m = true) :
    Mem.risingFrom lo (Mem.erase k m) = true := by
  induction m generalizing lo with
  | nil => rfl
  | cons c m ih =>
    obtain ⟨j, w⟩ := c
    simp only [Mem.risingFrom, Bool.and_eq_true] at h
    unfold Mem.erase
    split
    · refine Mem.risingFrom_weaken (j := j) ?_ h.2
      intro l hl; subst hl; simpa using h.1
    · simp only [Mem.risingFrom, Bool.and_eq_true]
      exact ⟨h.1, ih (some j) h.2⟩

/-- Removing an entry keeps what every entry satisfies. -/
theorem Mem.all_erase (P : Host.Cell → Bool) (k : Nat) (m : Mem) (h : m.all P = true) :
    (Mem.erase k m).all P = true := by
  induction m with
  | nil => rfl
  | cons c m ih =>
    simp only [List.all_cons, Bool.and_eq_true] at h
    unfold Mem.erase
    split
    · exact h.2
    · simp only [List.all_cons, Bool.and_eq_true]; exact ⟨h.1, ih h.2⟩

/-- The loader's placing of a ROM byte keeps the ROM's canonical form. -/
theorem Mem.romWf_romPut {size k : Nat} (v : Byte) {m : Mem} (hk : k < size) (h : Mem.romWf size m = true) :
    Mem.romWf size (Mem.romPut k v m) = true := by
  unfold Mem.romWf at *
  simp only [Bool.and_eq_true] at *
  unfold Mem.romPut
  split
  · refine ⟨?_, Mem.all_erase _ k m h.2⟩
    have h1 := h.1
    unfold Mem.wf at *
    simp only [Bool.and_eq_true] at *
    exact ⟨Mem.risingFrom_erase k m none h1.1, Mem.all_erase _ k m h1.2⟩
  · rename_i hv
    exact ⟨Mem.wf_put v hk h.1,
      Mem.all_put (fun _ w => decide (w ≠ blankByte)) k v m (by simpa using hv) h.2⟩

end Sys2Proof.Machine
end

