-- ==== Sys2Proof/Laws/Bus.lean ====
section
/-! SUPPORT. The Bus: a read looks only at the storages, the mapper, the cartridge and the draw number; a write changes only
the storages, the trace, the mapper registers and the mirroring mode; read after write. -/

namespace Sys2Proof.Machine

/-! ### What a read looks at -/

@[simp] theorem State.read_setA (s : State) (v : Byte) (a : Word) : (s.setA v).read a = s.read a := rfl
@[simp] theorem State.read_setX (s : State) (v : Byte) (a : Word) : (s.setX v).read a = s.read a := rfl
@[simp] theorem State.read_setY (s : State) (v : Byte) (a : Word) : (s.setY v).read a = s.read a := rfl
@[simp] theorem State.read_setSp (s : State) (v : Byte) (a : Word) : (s.setSp v).read a = s.read a := rfl
@[simp] theorem State.read_setP (s : State) (v : Byte) (a : Word) : (s.setP v).read a = s.read a := rfl
@[simp] theorem State.read_setPc (s : State) (v : Word) (a : Word) : (s.setPc v).read a = s.read a := rfl
@[simp] theorem State.read_advance (s : State) (n a : Word) : (s.advance n).read a = s.read a := rfl
@[simp] theorem State.read_setFlag (s : State) (f : Flag) (b : Bool) (a : Word) : (s.setFlag f b).read a = s.read a := rfl
@[simp] theorem State.read_setZN (s : State) (v : Byte) (a : Word) : (s.setZN v).read a = s.read a := rfl
@[simp] theorem State.read_emit (s : State) (e : Event) (a : Word) : (s.emit e).read a = s.read a := rfl
@[simp] theorem State.read_setMirroring (s : State) (m : Mirroring) (a : Word) : (s.setMirroring m).read a = s.read a := rfl
@[simp] theorem State.read_setChrRam (s : State) (m : Mem) (a : Word) : (s.setChrRam m).read a = s.read a := rfl
@[simp] theorem State.read_setCyclesRemaining (s : State) (n : Nat) (a : Word) :
    (s.setCyclesRemaining n).read a = s.read a := rfl
@[simp] theorem State.read_setFault (s : State) (f : Option Fault) (a : Word) : (s.setFault f).read a = s.read a := rfl

/-- Two states that agree on the storages, the mapper, the cartridge and the draw numbers read the same. -/
theorem State.read_congr {s t : State} (h1 : t.ram = s.ram) (h2 : t.ppuRegs = s.ppuRegs) (h3 : t.apuRegs = s.apuRegs)
    (h4 : t.prgRam = s.prgRam) (h5 : t.cart = s.cart) (h6 : t.mapper = s.mapper) (h7 : t.drawIndex = s.drawIndex)
    (h8 : t.cartRamDraw = s.cartRamDraw) (a : Word) : t.read a = s.read a := by
  unfold State.read State.locate
  rw [h5, h6, h7]
  split
  · rename_i l _
    cases l <;> simp [State.byteAt, h1, h2, h3, h4, h5, h8]
  · rfl

/-! ### What a write changes -/

/-- A notification changes the trace alone. -/
theorem State.notify_eq (s : State) (a : Word) (v : Byte) : s.notify a v = { s with trace := (s.notify a v).trace } := by
  unfold State.notify
  split
  · rfl
  · split
    · rfl
    · split <;> rfl

/-- A mapper register write changes the mapper's registers and its mirroring mode alone. -/
theorem State.writeMapper_eq (s : State) (a : Word) (v : Byte) :
    s.writeMapper a v =
      { s with mapper := (s.writeMapper a v).mapper, mirroring := (s.writeMapper a v).mirroring } := by
  unfold State.writeMapper
  split
  · rfl
  · rfl
  · rfl

/-- The whole effect of a write: the storages, the trace, the mapper's registers and its mirroring mode. -/
theorem State.write_eq (s : State) (ea : Word) (v : Byte) :
    s.write ea v =
      { s with
        ram := (s.write ea v).ram
        ppuRegs := (s.write ea v).ppuRegs
        apuRegs := (s.write ea v).apuRegs
        trace := (s.write ea v).trace
        mapper := (s.write ea v).mapper
        mirroring := (s.write ea v).mirroring
        prgRam := (s.write ea v).prgRam } := by
  unfold State.write
  split
  · rfl
  · rfl
  · rw [State.notify_eq]; rfl
  · rfl
  · split <;> rfl
  · rw [State.writeMapper_eq]

@[simp] theorem State.write_a (s : State) (ea : Word) (v : Byte) : (s.write ea v).a = s.a := by rw [State.write_eq]
@[simp] theorem State.write_x (s : State) (ea : Word) (v : Byte) : (s.write ea v).x = s.x := by rw [State.write_eq]
@[simp] theorem State.write_y (s : State) (ea : Word) (v : Byte) : (s.write ea v).y = s.y := by rw [State.write_eq]
@[simp] theorem State.write_sp (s : State) (ea : Word) (v : Byte) : (s.write ea v).sp = s.sp := by rw [State.write_eq]
@[simp] theorem State.write_p (s : State) (ea : Word) (v : Byte) : (s.write ea v).p = s.p := by rw [State.write_eq]
@[simp] theorem State.write_pc (s : State) (ea : Word) (v : Byte) : (s.write ea v).pc = s.pc := by rw [State.write_eq]
@[simp] theorem State.write_cyclesRemaining (s : State) (ea : Word) (v : Byte) :
    (s.write ea v).cyclesRemaining = s.cyclesRemaining := by rw [State.write_eq]
@[simp] theorem State.write_fault (s : State) (ea : Word) (v : Byte) : (s.write ea v).fault = s.fault := by
  rw [State.write_eq]
@[simp] theorem State.write_cart (s : State) (ea : Word) (v : Byte) : (s.write ea v).cart = s.cart := by
  rw [State.write_eq]
@[simp] theorem State.write_chrRam (s : State) (ea : Word) (v : Byte) : (s.write ea v).chrRam = s.chrRam := by
  rw [State.write_eq]
@[simp] theorem State.write_drawIndex (s : State) (ea : Word) (v : Byte) :
    (s.write ea v).drawIndex = s.drawIndex := by rw [State.write_eq]
@[simp] theorem State.write_cartRamDraw (s : State) (ea : Word) (v : Byte) :
    (s.write ea v).cartRamDraw = s.cartRamDraw := by rw [State.write_eq]

/-- A flag of P is no part of the Bus. -/
@[simp] theorem State.flag_write (s : State) (ea : Word) (v : Byte) (f : Flag) : (s.write ea v).flag f = s.flag f := by
  simp [State.flag]

/-! ### What a write does not look at: it commutes with register writes -/

/-- A write commutes with a change of the registers. -/
theorem State.write_registers (s : State) (ea : Word) (v : Byte) (a x y sp p : Byte) (pc : Word) :
    ({ s with a := a, x := x, y := y, sp := sp, p := p, pc := pc } : State).write ea v =
      { s.write ea v with a := a, x := x, y := y, sp := sp, p := p, pc := pc } := by
  unfold State.write State.writeMapper State.notify
  cases window ea
  · rfl
  · rfl
  · simp only
    split
    · rfl
    · split
      · rfl
      · split <;> rfl
  · rfl
  · simp only; split <;> rfl
  · cases hm : s.mapper <;> simp only [hm] <;> rfl

/-! ### Windows -/

/-- The RAM window is the addresses below 0x2000 (R54). -/
theorem window_ram {a : Word} : window a = .ram ↔ a.toNat < 0x2000 := by
  unfold window; repeat' split
  all_goals (simp; try omega)

/-- The video-register window (R54). -/
theorem window_video {a : Word} : window a = .video ↔ 0x2000 ≤ a.toNat ∧ a.toNat < 0x4000 := by
  unfold window; repeat' split
  all_goals (simp; try omega)

/-- The audio/IO window (R54). -/
theorem window_audio {a : Word} : window a = .audio ↔ 0x4000 ≤ a.toNat ∧ a.toNat < 0x4020 := by
  unfold window; repeat' split
  all_goals (simp; try omega)

/-- The part of the cartridge window with no storage (R73). -/
theorem window_expansion {a : Word} : window a = .expansion ↔ 0x4020 ≤ a.toNat ∧ a.toNat < 0x6000 := by
  unfold window; repeat' split
  all_goals (simp; try omega)

/-- The PRG-RAM window (R76). -/
theorem window_prgRam {a : Word} : window a = .prgRam ↔ 0x6000 ≤ a.toNat ∧ a.toNat < 0x8000 := by
  unfold window; repeat' split
  all_goals (simp; try omega)

/-- The PRG window. -/
theorem window_prg {a : Word} : window a = .prg ↔ 0x8000 ≤ a.toNat := by
  unfold window; repeat' split
  all_goals (simp; try omega)

/-! ### A write, window by window -/

theorem State.write_ram_window {s : State} {ea : Word} {v : Byte} (h : window ea = .ram) :
    s.write ea v = s.setRam (Mem.put (ramIndex ea) v s.ram) := by unfold State.write; simp [h]

theorem State.write_video_window {s : State} {ea : Word} {v : Byte} (h : window ea = .video) :
    s.write ea v = s.setPpuRegs (Mem.put (videoIndex ea) v s.ppuRegs) := by unfold State.write; simp [h]

theorem State.write_audio_window {s : State} {ea : Word} {v : Byte} (h : window ea = .audio) :
    s.write ea v = (s.setApuRegs (Mem.put (ea.toNat - 0x4000) v s.apuRegs)).notify ea v := by
  unfold State.write; simp [h]

theorem State.write_expansion_window {s : State} {ea : Word} {v : Byte} (h : window ea = .expansion) :
    s.write ea v = s := by unfold State.write; simp [h]

theorem State.write_prgRam_window {s : State} {ea : Word} {v : Byte} (h : window ea = .prgRam) :
    s.write ea v =
      if prgRamWritable s.mapper then s.setPrgRam (Mem.put (ea.toNat - 0x6000) v s.prgRam) else s := by
  unfold State.write; simp [h]

theorem State.write_prg_window {s : State} {ea : Word} {v : Byte} (h : window ea = .prg) :
    s.write ea v = s.writeMapper ea v := by unfold State.write; simp [h]

/-! ### A read, window by window -/

theorem State.read_ram_window {s : State} {a : Word} (h : window a = .ram) :
    s.read a = (Mem.lookup (ramIndex a) s.ram).getD (Config.initRam (ramIndex a)) := by
  unfold State.read State.locate; simp [h, State.byteAt]

theorem State.read_video_window {s : State} {a : Word} (h : window a = .video) :
    s.read a = (Mem.lookup (videoIndex a) s.ppuRegs).getD (Config.initPpuRegs (videoIndex a)) := by
  unfold State.read State.locate; simp [h, State.byteAt]

theorem State.read_audio_window {s : State} {a : Word} (h : window a = .audio) :
    s.read a = (Mem.lookup (a.toNat - 0x4000) s.apuRegs).getD (Config.initApuRegs (a.toNat - 0x4000)) := by
  unfold State.read State.locate; simp [h, State.byteAt]

theorem State.read_expansion_window {s : State} {a : Word} (h : window a = .expansion) :
    s.read a = Config.openBusRead s.drawIndex a := by unfold State.read State.locate; simp [h]

theorem State.read_prgRam_window {s : State} {a : Word} (h : window a = .prgRam) :
    s.read a =
      if prgRamReadable s.mapper then
        (Mem.lookup (a.toNat - 0x6000) s.prgRam).getD (Config.prgRamInit s.cartRamDraw (a.toNat - 0x6000))
      else Config.openBusRead s.drawIndex a := by
  unfold State.read State.locate; simp only [h]
  cases prgRamReadable s.mapper <;> rfl

theorem State.read_prg_window {s : State} {a : Word} (h : window a = .prg) :
    s.read a = (Mem.lookup (prgIndex s.cart s.mapper a) s.cart.prgRom).getD blankByte := by
  unfold State.read State.locate; simp [h, State.byteAt]

/-! ### Read after write -/

/-- The stack is in RAM, whatever SP holds (R23). -/
theorem window_stackAddr (sp : Byte) : window (stackAddr sp) = .ram := by
  rw [window_ram]
  have : sp.toNat < 256 := sp.isLt
  have h : (stackAddr sp).toNat = 256 + sp.toNat := by
    unfold stackAddr zext16
    rw [BitVec.toNat_add, BitVec.toNat_setWidth]
    simp; omega
  omega

/-- The stack byte's address as a number (R23). -/
theorem toNat_stackAddr (sp : Byte) : (stackAddr sp).toNat = 256 + sp.toNat := by
  have : sp.toNat < 256 := sp.isLt
  unfold stackAddr zext16
  rw [BitVec.toNat_add, BitVec.toNat_setWidth]
  simp; omega

/-- Reading RAM after writing RAM (R55). -/
theorem State.read_write_ram {s : State} {ea a : Word} {v : Byte} (h : window ea = .ram) (ha : window a = .ram) :
    (s.write ea v).read a = if ramIndex a = ramIndex ea then v else s.read a := by
  rw [State.write_ram_window h, State.read_ram_window ha, State.read_ram_window ha]
  simp only [State.setRam_ram, Mem.lookup_put]
  split <;> simp_all

/-- A pushed byte is read back at its address. -/
@[simp] theorem State.read_write_stack (s : State) (sp v : Byte) :
    (s.write (stackAddr sp) v).read (stackAddr sp) = v := by
  rw [State.read_write_ram (window_stackAddr sp) (window_stackAddr sp)]; simp

/-- Stack bytes at different SP are different bytes. -/
theorem State.read_write_stack_other (s : State) {sp sp' : Byte} (v : Byte) (h : sp' ≠ sp) :
    (s.write (stackAddr sp) v).read (stackAddr sp') = s.read (stackAddr sp') := by
  rw [State.read_write_ram (window_stackAddr sp) (window_stackAddr sp')]
  have h1 : sp.toNat < 256 := sp.isLt
  have h2 : sp'.toNat < 256 := sp'.isLt
  have h3 : sp'.toNat ≠ sp.toNat := fun e => h (BitVec.eq_of_toNat_eq e)
  have : ramIndex (stackAddr sp') ≠ ramIndex (stackAddr sp) := by
    unfold ramIndex; rw [toNat_stackAddr, toNat_stackAddr]; omega
  simp [this]

/-- A write to RAM leaves every byte outside RAM as it reads. -/
theorem State.read_write_ram_outside {s : State} {ea a : Word} {v : Byte} (h : window ea = .ram) (ha : window a ≠ .ram) :
    (s.write ea v).read a = s.read a := by
  rw [State.write_ram_window h]
  cases hw : window a
  · exact absurd hw ha
  · rw [State.read_video_window hw, State.read_video_window hw]; rfl
  · rw [State.read_audio_window hw, State.read_audio_window hw]; rfl
  · rw [State.read_expansion_window hw, State.read_expansion_window hw]; rfl
  · rw [State.read_prgRam_window hw, State.read_prgRam_window hw]; rfl
  · rw [State.read_prg_window hw, State.read_prg_window hw]; rfl

/-! ### What a store leaves alone -/

/-- A read does not look at the CPU's registers. -/
theorem State.read_update (s : State) (a x y sp p : Byte) (pc ea : Word) :
    ({ s with a := a, x := x, y := y, sp := sp, p := p, pc := pc } : State).read ea = s.read ea := rfl

/-- A read outside the two windows a mapper maps looks at RAM, the register windows and the draw number alone. -/
theorem State.read_congr_low {s t : State} {a : Word} (h : a.toNat < 0x6000) (h1 : t.ram = s.ram)
    (h2 : t.ppuRegs = s.ppuRegs) (h3 : t.apuRegs = s.apuRegs) (h4 : t.drawIndex = s.drawIndex) :
    t.read a = s.read a := by
  cases hw : window a
  · rw [State.read_ram_window hw, State.read_ram_window hw, h1]
  · rw [State.read_video_window hw, State.read_video_window hw, h2]
  · rw [State.read_audio_window hw, State.read_audio_window hw, h3]
  · rw [State.read_expansion_window hw, State.read_expansion_window hw, h4]
  · have := window_prgRam.mp hw; omega
  · have := window_prg.mp hw; omega

/-- A write leaves every byte it does not reach as it reads (R55, R58, R59, R73, R105, R123). -/
theorem State.read_write_other {s : State} {ea a : Word} (v : Byte) (h : storeReaches ea a = false) :
    (s.write ea v).read a = s.read a := by
  unfold storeReaches at h
  cases hw : window ea <;> rw [hw] at h <;> simp only [decide_eq_false_iff_not] at h
  · by_cases ha : window a = .ram
    · rw [State.read_write_ram hw ha, if_neg (fun e => h ⟨ha, e⟩)]
    · exact State.read_write_ram_outside hw ha
  · rw [State.write_video_window hw]
    cases hb : window a
    · rw [State.read_ram_window hb, State.read_ram_window hb]; rfl
    · rw [State.read_video_window hb, State.read_video_window hb]
      simp only [State.setPpuRegs_ppuRegs]
      rw [Mem.lookup_put_other (fun e => h ⟨hb, e⟩)]
    · rw [State.read_audio_window hb, State.read_audio_window hb]; rfl
    · rw [State.read_expansion_window hb, State.read_expansion_window hb]; rfl
    · rw [State.read_prgRam_window hb, State.read_prgRam_window hb]; rfl
    · rw [State.read_prg_window hb, State.read_prg_window hb]; rfl
  · rw [State.write_audio_window hw, State.notify_eq]
    cases hb : window a
    · rw [State.read_ram_window hb, State.read_ram_window hb]; rfl
    · rw [State.read_video_window hb, State.read_video_window hb]; rfl
    · have h1 := window_audio.mp hb
      have h2 := window_audio.mp hw
      rw [State.read_audio_window hb, State.read_audio_window hb]
      simp only [State.setApuRegs_apuRegs]
      rw [Mem.lookup_put_other (fun e => h (BitVec.eq_of_toNat_eq (by omega)))]
    · rw [State.read_expansion_window hb, State.read_expansion_window hb]; rfl
    · rw [State.read_prgRam_window hb, State.read_prgRam_window hb]; rfl
    · rw [State.read_prg_window hb, State.read_prg_window hb]; rfl
  · rw [State.write_expansion_window hw]
  · rw [State.write_prgRam_window hw]
    split
    · cases hb : window a
      · rw [State.read_ram_window hb, State.read_ram_window hb]; rfl
      · rw [State.read_video_window hb, State.read_video_window hb]; rfl
      · rw [State.read_audio_window hb, State.read_audio_window hb]; rfl
      · rw [State.read_expansion_window hb, State.read_expansion_window hb]; rfl
      · have h1 := window_prgRam.mp hb
        have h2 := window_prgRam.mp hw
        rw [State.read_prgRam_window hb, State.read_prgRam_window hb]
        simp only [State.setPrgRam_prgRam, State.setPrgRam_mapper]
        rw [Mem.lookup_put_other (fun e => h (BitVec.eq_of_toNat_eq (by omega)))]
        rfl
      · rw [State.read_prg_window hb, State.read_prg_window hb]; rfl
    · rfl
  · rw [State.write_prg_window hw, State.writeMapper_eq]
    exact State.read_congr_low (by omega) rfl rfl rfl rfl

/-! ### Words and their bytes -/

/-- The value of a word made of two bytes (R57, R65). -/
theorem toNat_wordOf (lo hi : Byte) : (wordOf lo hi).toNat = 256 * hi.toNat + lo.toNat := by
  have h := lo.isLt
  unfold wordOf
  rw [BitVec.toNat_append, ← Nat.shiftLeft_add_eq_or_of_lt h, Nat.shiftLeft_eq]
  omega

/-- A word is its two bytes. -/
theorem wordOf_lowByte_highByte (w : Word) : wordOf (lowByte w) (highByte w) = w := by
  apply BitVec.eq_of_toNat_eq
  have h := w.isLt
  rw [toNat_wordOf]
  unfold lowByte highByte
  rw [BitVec.toNat_setWidth, BitVec.toNat_setWidth, BitVec.toNat_ushiftRight, Nat.shiftRight_eq_div_pow]
  omega

end Sys2Proof.Machine
end

