-- ==== Sys2Proof/Laws/Canonical.lean ====
section
/-! SUPPORT. Every memory operation keeps the canonical form of the storages (log 9), and the reset state has it. -/

namespace Sys2Proof.Machine

/-- The canonical form, storage by storage. -/
theorem Memory.wf_iff (s : State) :
    Memory.wf s = true ↔
      Mem.wf 0x800 s.ram = true ∧ Mem.wf 8 s.ppuRegs = true ∧ Mem.wf 32 s.apuRegs = true ∧ Mem.wf 0x2000 s.prgRam = true ∧
        Mem.wf 0x2000 s.chrRam = true ∧ Mem.romWf s.cart.prgRomSize s.cart.prgRom = true ∧
        Mem.romWf s.cart.chrDataSize s.cart.chrRom = true := by
  simp only [Memory.wf, Bool.and_eq_true, and_assoc]

/-- The canonical form looks at the storages and the cartridge alone. -/
theorem Memory.wf_congr {s t : State} (h1 : t.ram = s.ram) (h2 : t.ppuRegs = s.ppuRegs) (h3 : t.apuRegs = s.apuRegs)
    (h4 : t.prgRam = s.prgRam) (h5 : t.chrRam = s.chrRam) (h6 : t.cart = s.cart) : Memory.wf t = Memory.wf s := by
  simp only [Memory.wf, h1, h2, h3, h4, h5, h6]

theorem ramIndex_lt (a : Word) : ramIndex a < 0x800 := Nat.mod_lt _ (by decide)

theorem videoIndex_lt (a : Word) : videoIndex a < 8 := Nat.mod_lt _ (by decide)

/-- A Bus write keeps the canonical form. -/
theorem Memory.wf_write {s : State} (h : Memory.wf s = true) (a : Word) (v : Byte) : Memory.wf (s.write a v) = true := by
  have h0 := h
  rw [Memory.wf_iff] at h0
  obtain ⟨h1, h2, h3, h4, h5, h6, h7⟩ := h0
  cases hw : window a
  · rw [State.write_ram_window hw, Memory.wf_iff]
    exact ⟨Mem.wf_put v (ramIndex_lt a) h1, h2, h3, h4, h5, h6, h7⟩
  · rw [State.write_video_window hw, Memory.wf_iff]
    exact ⟨h1, Mem.wf_put v (videoIndex_lt a) h2, h3, h4, h5, h6, h7⟩
  · have hr := window_audio.mp hw
    rw [State.write_audio_window hw, State.notify_eq, Memory.wf_iff]
    exact ⟨h1, h2, Mem.wf_put v (by omega) h3, h4, h5, h6, h7⟩
  · rw [State.write_expansion_window hw]; exact h
  · have hr := window_prgRam.mp hw
    rw [State.write_prgRam_window hw]
    split
    · rw [Memory.wf_iff]
      exact ⟨h1, h2, h3, Mem.wf_put v (by omega) h4, h5, h6, h7⟩
    · exact h
  · rw [State.write_prg_window hw, State.writeMapper_eq]; exact h

/-- The loader's placing of a byte keeps the canonical form, where the bank translation stays inside the ROM. -/
theorem Memory.wf_placeByte {s : State} (h : Memory.wf s = true) (a : Word) (v : Byte)
    (hp : prgIndex s.cart s.mapper a < s.cart.prgRomSize) : Memory.wf (s.placeByte a v) = true := by
  have h0 := h
  rw [Memory.wf_iff] at h0
  obtain ⟨h1, h2, h3, h4, h5, h6, h7⟩ := h0
  unfold State.placeByte State.locate
  cases hw : window a
  · rw [Memory.wf_iff]
    exact ⟨Mem.wf_put v (ramIndex_lt a) h1, h2, h3, h4, h5, h6, h7⟩
  · rw [Memory.wf_iff]
    exact ⟨h1, Mem.wf_put v (videoIndex_lt a) h2, h3, h4, h5, h6, h7⟩
  · have hr := window_audio.mp hw
    rw [Memory.wf_iff]
    exact ⟨h1, h2, Mem.wf_put v (by omega) h3, h4, h5, h6, h7⟩
  · exact h
  · have hr := window_prgRam.mp hw
    dsimp only
    by_cases hm : prgRamReadable s.mapper = true
    · rw [if_pos hm, Memory.wf_iff]
      exact ⟨h1, h2, h3, Mem.wf_put v (by omega) h4, h5, h6, h7⟩
    · rw [if_neg hm]; exact h
  · rw [Memory.wf_iff]
    exact ⟨h1, h2, h3, h4, h5, Mem.romWf_romPut v hp h6, h7⟩

/-- The reset state's storages are in canonical form. -/
theorem Memory.wf_reset : Memory.wf State.reset = true := by decide

end Sys2Proof.Machine
end

