-- ==== Sys2Proof/Laws/Decode.lean ====
section
/-! SUPPORT. The two readings of the decoder agree: on the three fetched bytes, and on a byte sequence. -/

namespace Sys2Proof.Machine

/-- The decoder on three bytes is the table lookup the step makes. -/
theorem instrAt_of_decode {b0 b1 b2 : Byte} {i : Instr} {rest : List Byte}
    (h : decode [b0, b1, b2] = .ok (i, rest)) : instrAt b0 b1 b2 = some i := by
  unfold instrAt
  cases he : opcodeEntry b0.toNat with
  | none => simp [decode, he] at h
  | some e =>
    obtain ⟨mn, mode, cyc, form⟩ := e
    cases form <;> simp [decode, he] at h <;> simp [Form.instr, h.1]

/-- A step's fetch and the decoder on the fetched bytes. -/
theorem State.fetchInstr_of_decode {s : State} {i : Instr} {rest : List Byte}
    (h : decode s.fetchBytes = .ok (i, rest)) : s.fetchInstr = some i := instrAt_of_decode h

/-- The decoder names the opcode it has no entry for. -/
theorem decode_unmapped {op : Byte} {rest : List Byte} (h : opcodeEntry op.toNat = none) :
    decode (op :: rest) = .error (.unmapped op) := by simp [decode, h]

/-- An unmapped opcode gives no instruction whatever follows it. -/
theorem instrAt_unmapped {op b1 b2 : Byte} : instrAt op b1 b2 = none ↔ opcodeEntry op.toNat = none := by
  simp [instrAt]

end Sys2Proof.Machine
end

