-- ==== Sys2Proof/Laws/Handlers.lean ====
section
/-! SUPPORT. The whole effect of each handler as one record update: what it writes, with which value, and that it writes
nothing else. A proof about an instruction cites these and unfolds no handler. -/

namespace Sys2Proof.Machine

/-! ### A write does not look at the CPU's registers -/

/-- Writing memory after any change of P, SP or PC is the same write with that change kept. -/
theorem State.write_update (s : State) (p sp : Byte) (pc ea : Word) (v : Byte) :
    ({ s with p := p, sp := sp, pc := pc } : State).write ea v = { s.write ea v with p := p, sp := sp, pc := pc } := by
  cases hw : window ea
  · simp only [State.write_ram_window hw]; rfl
  · simp only [State.write_video_window hw]; rfl
  · simp only [State.write_audio_window hw]
    unfold State.notify
    split
    · rfl
    · split
      · rfl
      · split <;> rfl
  · simp only [State.write_expansion_window hw]
  · by_cases h : prgRamWritable s.mapper = true
    · rw [State.write_prgRam_window hw, State.write_prgRam_window hw, if_pos h, if_pos h]; rfl
    · rw [State.write_prgRam_window hw, State.write_prgRam_window hw, if_neg h, if_neg h]
  · simp only [State.write_prg_window hw]
    rcases s with ⟨_, _, _, _, _, _, _, _, _, _, _, _, _, m, _, _, _, _, _⟩
    cases m <;> rfl

theorem State.write_setP (s : State) (v : Byte) (ea : Word) (w : Byte) :
    (s.setP v).write ea w = (s.write ea w).setP v := by
  have h := State.write_update s v s.sp s.pc ea w
  rw [State.write_eq s] at h ⊢
  exact h

theorem State.write_advance (s : State) (n ea : Word) (v : Byte) :
    (s.advance n).write ea v = { s.write ea v with pc := s.pc + n } := by
  have h := State.write_update s s.p s.sp (s.pc + n) ea v
  rw [State.write_eq s] at h ⊢
  exact h

/-! ### The status register as the handlers leave it -/

/-- P after `setZN(v)` (R29). -/
def pZN (p v : Byte) : Byte := withBit (withBit p 1 (v == 0)) 7 (v.getLsbD 7)

theorem State.setZN_update (s : State) (v : Byte) : s.setZN v = { s with p := pZN s.p v } := rfl

theorem State.setFlag_update (s : State) (f : Flag) (b : Bool) :
    s.setFlag f b = { s with p := withBit s.p (flagBit f) b } := rfl

/-! ### Arithmetic -/

theorem State.adc_update (s : State) (m : Byte) :
    s.adc m =
      { s with
        a := adcResult s.a m (s.flag .carry)
        p := pZN
          (withBit (withBit s.p 0 (adcCarry s.a m (s.flag .carry))) 6
            (adcOverflow s.a m (adcResult s.a m (s.flag .carry))))
          (adcResult s.a m (s.flag .carry)) } := by
  simp only [State.adc, State.setZN_update, State.setFlag_update, State.setA, flagBit]

theorem State.sbc_update (s : State) (m : Byte) :
    s.sbc m =
      { s with
        a := sbcResult s.a m (s.flag .carry)
        p := pZN
          (withBit (withBit s.p 0 (sbcCarry s.a m (s.flag .carry))) 6
            (sbcOverflow s.a m (sbcResult s.a m (s.flag .carry))))
          (sbcResult s.a m (s.flag .carry)) } := by
  simp only [State.sbc, State.setZN_update, State.setFlag_update, State.setA, flagBit]

theorem State.compare_update (s : State) (r m : Byte) :
    s.compare r m = { s with p := pZN (withBit s.p 0 (decide (m.toNat ≤ r.toNat))) (r - m) } := rfl

theorem State.incAt_update (s : State) (ea : Word) :
    s.incAt ea = { s.write ea (s.read ea + 1) with p := pZN s.p (s.read ea + 1) } := by
  unfold State.incAt; rw [State.setZN_update, State.write_p]

theorem State.decAt_update (s : State) (ea : Word) :
    s.decAt ea = { s.write ea (s.read ea - 1) with p := pZN s.p (s.read ea - 1) } := by
  unfold State.decAt; rw [State.setZN_update, State.write_p]

theorem State.inx_update (s : State) : s.inx = { s with x := s.x + 1, p := pZN s.p (s.x + 1) } := rfl
theorem State.iny_update (s : State) : s.iny = { s with y := s.y + 1, p := pZN s.p (s.y + 1) } := rfl
theorem State.dex_update (s : State) : s.dex = { s with x := s.x - 1, p := pZN s.p (s.x - 1) } := rfl
theorem State.dey_update (s : State) : s.dey = { s with y := s.y - 1, p := pZN s.p (s.y - 1) } := rfl

/-! ### Stack primitives and instructions -/

theorem State.push_update (s : State) (v : Byte) :
    s.push v = { s.write (stackAddr s.sp) v with sp := s.sp - 1 } := rfl

theorem State.push16_update (s : State) (w : Word) :
    s.push16 w =
      { (s.write (stackAddr s.sp) (highByte w)).write (stackAddr (s.sp - 1)) (lowByte w) with sp := s.sp - 2 } := by
  have h : s.sp - 1 - 1 = s.sp - 2 := by rw [BitVec.sub_sub]; rfl
  unfold State.push16
  rw [State.push_update, State.push_update]
  simp only [State.write_ram_window (window_stackAddr _), State.setRam, h]

theorem State.popValue_eq (s : State) : s.popValue = s.read (stackAddr (s.sp + 1)) := rfl

theorem State.popped_update (s : State) : s.popped = { s with sp := s.sp + 1 } := rfl

theorem State.popped16_update (s : State) : s.popped16 = { s with sp := s.sp + 2 } := by
  have h : s.sp + 1 + 1 = s.sp + 2 := by rw [BitVec.add_assoc]; rfl
  show ({ s with sp := s.sp + 1 + 1 } : State) = _
  rw [h]

theorem State.pop16Value_eq (s : State) :
    s.pop16Value = wordOf (s.read (stackAddr (s.sp + 1))) (s.read (stackAddr (s.sp + 2))) := by
  have h : s.sp + 1 + 1 = s.sp + 2 := by rw [BitVec.add_assoc]; rfl
  show wordOf (s.read (stackAddr (s.sp + 1))) (s.read (stackAddr (s.sp + 1 + 1))) = _
  rw [h]

theorem State.pla_update (s : State) :
    s.pla = { s with a := s.popValue, sp := s.sp + 1, p := pZN s.p s.popValue } := rfl
theorem State.plp_update (s : State) : s.plp = { s with sp := s.sp + 1, p := pulledStatus s.popValue } := rfl
theorem State.tsx_update (s : State) : s.tsx = { s with x := s.sp, p := pZN s.p s.sp } := rfl
theorem State.txs_update (s : State) : s.txs = { s with sp := s.x } := rfl

/-! ### Control -/

theorem State.jsr_update (s : State) (t : Word) :
    s.jsr t =
      { (s.write (stackAddr s.sp) (highByte (s.pc - 1))).write (stackAddr (s.sp - 1)) (lowByte (s.pc - 1)) with
        sp := s.sp - 2
        pc := t } := by
  unfold State.jsr; rw [State.push16_update]; rfl

theorem State.rts_update (s : State) : s.rts = { s with sp := s.sp + 2, pc := s.pop16Value + 1 } := by
  unfold State.rts; rw [State.popped16_update]; rfl

/-- The trap, from the state whose PC is the return address (R243): three pushes, I, and the vector. -/
theorem State.takeTrap_update (s : State) :
    s.takeTrap =
      { ((s.write (stackAddr s.sp) (highByte s.pc)).write (stackAddr (s.sp - 1)) (lowByte s.pc)).write
          (stackAddr (s.sp - 2)) (pushedStatus s.p) with
        sp := s.sp - 3
        p := withBit s.p 2 true
        pc := s.read16 brkVector } := by
  have h : s.sp - 2 - 1 = s.sp - 3 := by rw [BitVec.sub_sub]; rfl
  have hv : ∀ t : State, t.cart = s.cart → t.mapper = s.mapper → t.read16 brkVector = s.read16 brkVector := by
    intro t h1 h2
    have e1 : window brkVector = .prg := by decide
    have e2 : window (brkVector + 1) = .prg := by decide
    unfold State.read16
    rw [State.read_prg_window e1, State.read_prg_window e2, State.read_prg_window e1, State.read_prg_window e2, h1, h2]
  unfold State.takeTrap
  simp only [State.push16_update, State.push_update, State.write_ram_window (window_stackAddr _), State.setRam,
    State.setFlag_update, State.setPc, h]
  rw [hv _ rfl rfl]
  rfl

theorem State.returnFromTrap_update (s : State) :
    s.returnFromTrap =
      { s with
        p := pulledStatus s.popValue
        sp := s.sp + 3
        pc := wordOf (s.read (stackAddr (s.sp + 2))) (s.read (stackAddr (s.sp + 3))) } := by
  have h2 : s.sp + 1 + 1 = s.sp + 2 := by rw [BitVec.add_assoc]; rfl
  have h3 : s.sp + 1 + 2 = s.sp + 3 := by rw [BitVec.add_assoc]; rfl
  unfold State.returnFromTrap
  simp only [State.popped16_update, State.pop16Value_eq, State.popped_update, State.setP, State.setPc, h2, h3]
  rfl

/-! ### Loads, stores, transfers -/

theorem State.lda_update (s : State) (m : Byte) : s.lda m = { s with a := m, p := pZN s.p m } := rfl
theorem State.ldx_update (s : State) (m : Byte) : s.ldx m = { s with x := m, p := pZN s.p m } := rfl
theorem State.ldy_update (s : State) (m : Byte) : s.ldy m = { s with y := m, p := pZN s.p m } := rfl
theorem State.tax_update (s : State) : s.tax = { s with x := s.a, p := pZN s.p s.a } := rfl
theorem State.tay_update (s : State) : s.tay = { s with y := s.a, p := pZN s.p s.a } := rfl
theorem State.txa_update (s : State) : s.txa = { s with a := s.x, p := pZN s.p s.x } := rfl
theorem State.tya_update (s : State) : s.tya = { s with a := s.y, p := pZN s.p s.y } := rfl

/-! ### Logic and shifts -/

theorem State.andA_update (s : State) (m : Byte) : s.andA m = { s with a := s.a &&& m, p := pZN s.p (s.a &&& m) } := rfl
theorem State.oraA_update (s : State) (m : Byte) : s.oraA m = { s with a := s.a ||| m, p := pZN s.p (s.a ||| m) } := rfl
theorem State.eorA_update (s : State) (m : Byte) : s.eorA m = { s with a := s.a ^^^ m, p := pZN s.p (s.a ^^^ m) } := rfl

theorem State.bitTest_update (s : State) (m : Byte) :
    s.bitTest m =
      { s with p := withBit (withBit (withBit s.p 1 ((s.a &&& m) == 0)) 7 (m.getLsbD 7)) 6 (m.getLsbD 6) } := rfl

theorem State.shiftAt_accumulator (s : State) (f : Byte → Bool → Shifted) :
    s.shiftAt f .accumulator =
      { s with
        a := (f s.a (s.flag .carry)).result
        p := pZN (withBit s.p 0 (f s.a (s.flag .carry)).carryOut) (f s.a (s.flag .carry)).result } := rfl

theorem State.shiftAt_mem (s : State) (f : Byte → Bool → Shifted) (ea : Word) :
    s.shiftAt f (.mem ea) =
      { s.write ea (f (s.read ea) (s.flag .carry)).result with
        p := pZN (withBit s.p 0 (f (s.read ea) (s.flag .carry)).carryOut) (f (s.read ea) (s.flag .carry)).result } := by
  show (((s.setP _).write ea _).setZN _) = _
  rw [State.write_setP, State.setZN_update]
  rfl

end Sys2Proof.Machine
end

