-- ==== Sys2Proof/Laws/Mapper.lean ====
section
/-! SUPPORT. The mapper engines: the whole effect of a register write for each variant, and the bit fields of their registers
as arithmetic. -/

namespace Sys2Proof.Machine

/-- A write to 0x8000–0xFFFF with NROM (R82). -/
theorem State.write_nrom {s : State} {a : Word} (hm : s.mapper = .nrom) (ha : 0x8000 ≤ a.toNat) (v : Byte) :
    s.write a v = s := by
  rw [State.write_prg_window (window_prg.mpr ha)]
  unfold State.writeMapper
  rw [hm]

/-- A write to 0x8000–0xFFFF with MMC1 (R95, R96, R101). -/
theorem State.write_mmc1 {s : State} {r : Mmc1} {a : Word} (hm : s.mapper = .mmc1 r) (ha : 0x8000 ≤ a.toNat) (v : Byte) :
    s.write a v =
      { s with mapper := .mmc1 (mmc1Write a v r), mirroring := mmc1Mirroring a v r s.mirroring } := by
  rw [State.write_prg_window (window_prg.mpr ha)]
  unfold State.writeMapper
  rw [hm]
  rfl

/-- A write to 0x8000–0xFFFF with MMC3 (R110, R116). -/
theorem State.write_mmc3 {s : State} {r : Mmc3} {a : Word} (hm : s.mapper = .mmc3 r) (ha : 0x8000 ≤ a.toNat) (v : Byte) :
    s.write a v =
      { s with mapper := .mmc3 (mmc3Write a v r), mirroring := mmc3Mirroring a v s.mirroring } := by
  rw [State.write_prg_window (window_prg.mpr ha)]
  unfold State.writeMapper
  rw [hm]
  rfl

/-- The sub-window is one of four. -/
theorem subWindow_lt (a : Word) : subWindow a < 4 := Nat.mod_lt _ (by decide)

/-- A logical right shift of five bits with a new bit at bit 4, as arithmetic. -/
theorem toNat_shiftIn :
    ∀ (r : BitVec 5) (b : Bool), ((r >>> 1) ||| (if b then 0x10 else 0x00)).toNat = r.toNat / 2 + 16 * b.toNat := by
  decide

/-- The MMC1 shift register after a qualifying write, as arithmetic (R95). -/
theorem toNat_mmc1Shift (r : Mmc1) (v : Byte) :
    (mmc1Shift r v).toNat = r.shiftReg.toNat / 2 + 16 * (v.getLsbD 0).toNat := toNat_shiftIn r.shiftReg (v.getLsbD 0)

/-- Bit 0 of a byte, as arithmetic. -/
theorem toNat_bit0 (v : Byte) : (v.getLsbD 0).toNat = v.toNat % 2 := by
  rw [BitVec.getLsbD, Nat.testBit_zero]
  rcases Nat.mod_two_eq_zero_or_one v.toNat with h | h <;> simp [h]

/-- Address bits 13:0, as arithmetic. -/
theorem toNat_and_3fff (a : Word) : (a &&& 0x3FFF).toNat = a.toNat % 0x4000 := by
  rw [BitVec.toNat_and, show (0x3FFF : Word).toNat = 2 ^ 14 - 1 by decide, show 0x4000 = 2 ^ 14 by norm_num]
  exact Nat.and_two_pow_sub_one_eq_mod a.toNat 14

/-- Address bits 12:0, as arithmetic. -/
theorem toNat_and_1fff (a : Word) : (a &&& 0x1FFF).toNat = a.toNat % 0x2000 := by
  rw [BitVec.toNat_and, show (0x1FFF : Word).toNat = 2 ^ 13 - 1 by decide, show 0x2000 = 2 ^ 13 by norm_num]
  exact Nat.and_two_pow_sub_one_eq_mod a.toNat 13

/-- The even and the odd bank of a pair, as arithmetic (R114). -/
theorem toNat_evenOdd (b : Byte) :
    (b &&& 0xFE).toNat = b.toNat / 2 * 2 ∧ (b ||| 0x01).toNat = b.toNat / 2 * 2 + 1 := by
  revert b; decide

end Sys2Proof.Machine
end

