-- ==== Sys2Proof/Laws/Step.lean ====
section
/-! SUPPORT. Everything a step can do, said once; and the branches' whole effect. -/

namespace Sys2Proof.Machine

/-- A step answers a recorded fault, faults on an unmapped opcode, or runs the fetched instruction. -/
theorem step_cases (s : State) :
    (∃ f, s.fault = some f ∧ step s = .fault f) ∨
      (s.fault = none ∧ s.fetchInstr = none ∧ step s = .fault s.invalidOpcode) ∨
        ∃ i, s.fault = none ∧ s.fetchInstr = some i ∧ step s = endStep (exec i s.nextDraw) := by
  unfold step
  cases h : s.fault with
  | some f => exact .inl ⟨f, rfl, rfl⟩
  | none =>
    cases hi : s.fetchInstr with
    | none => exact .inr (.inl ⟨rfl, rfl, rfl⟩)
    | some i => exact .inr (.inr ⟨i, rfl, rfl, rfl⟩)

/-- A next state comes from a fetched instruction's next state. -/
theorem step_next {s t : State} (h : step s = .next t) :
    ∃ i u, s.fault = none ∧ s.fetchInstr = some i ∧ exec i s.nextDraw = .next u ∧ t = u.nextDraw := by
  rcases step_cases s with ⟨f, _, e⟩ | ⟨_, _, e⟩ | ⟨i, h0, hi, e⟩
  · rw [e] at h; cases h
  · rw [e] at h; cases h
  · rw [e] at h
    cases hx : exec i s.nextDraw with
    | next u => rw [hx] at h; cases h; exact ⟨i, u, h0, hi, hx, rfl⟩
    | fault f => rw [hx] at h; cases h
    | refused r => rw [hx] at h; cases h

/-- A branch writes PC alone (R245). -/
theorem onBranch_eq (off : Byte) (cond : State → Bool) (s : State) :
    onBranch off cond s =
      .next { s with pc := if cond (s.advance 2) then s.pc + 2 + sext16 off else s.pc + 2 } := by
  unfold onBranch
  dsimp only
  cases cond (s.advance 2) <;> rfl

end Sys2Proof.Machine
end

