-- ==== Sys2Proof/Tests/Slice0.lean ====
section
/-! SUPPORT. The model's own tests. Expected values come from the spec: the opcode map of rule R160 of 30_encoding.md and the
vectors of 95_test_vectors.md, whose names the docstrings give. Each vector is one step (or one Bus or mapper call) on a small
state. At the end, one witness for the hypotheses of each statement. -/

namespace Sys2Proof.Tests

open Sys2Proof.Machine

/-! ## Well-formedness: a cartridge that breaks each check, and one that breaks none -/

/-- A cartridge with nothing listed in its buffers. -/
def blank (mapperNumber prgRomSize chrDataSize : Nat) : Cartridge :=
  { mapperNumber := mapperNumber, prgRomSize := prgRomSize, chrDataSize := chrDataSize, verticalMirroring := true,
    prgRom := [], chrRom := [], trainer := none }

theorem test_wf_instruction : (Instr.adcImm 0xFF).wf = true := by decide

theorem test_wf_cartridge : (blank 1 131072 32768).wf = true := by decide

theorem test_ill_formed_prg_size :
    (blank 1 0 8192).prgSizeOk = false ∧ (blank 1 8192 8192).prgSizeOk = false ∧ (blank 1 8192 8192).wf = false := by decide

theorem test_ill_formed_chr_size : (blank 1 16384 4096).chrSizeOk = false ∧ (blank 1 16384 4096).wf = false := by decide

theorem test_ill_formed_nrom_size : (blank 0 49152 8192).nromSizeOk = false ∧ (blank 0 49152 8192).wf = false := by decide

theorem test_ill_formed_prg_rom :
    ({ blank 1 16384 0 with prgRom := [(16384, 0x00)] } : Cartridge).prgRomOk = false ∧
      ({ blank 1 16384 0 with prgRom := [(1, 0x00), (0, 0x00)] } : Cartridge).wf = false := by decide

theorem test_ill_formed_chr_rom :
    ({ blank 1 16384 0 with chrRom := [(0, 0x00)] } : Cartridge).chrRomOk = false ∧
      ({ blank 1 16384 8192 with chrRom := [(0, 0xFF)] } : Cartridge).wf = false := by decide

/-! ## Decoding: every constructor, its opcode read off the map of rule R160, operand bytes 0x34 and 0x12 -/

/-- Each byte sequence decodes to its instruction and leaves nothing over. -/
def decodesTo (table : List (List Byte × Instr)) : Bool :=
  table.all (fun row =>
    match decode row.1 with
    | .ok (i, rest) => decide (i = row.2 ∧ rest = [])
    | .error _ => false)

theorem test_decode_arithmetic_1 :
    decodesTo
      [([0x61, 0x34], .adcIndX 0x34), ([0x65, 0x34], .adcZp 0x34), ([0x69, 0x34], .adcImm 0x34),
        ([0x6D, 0x34, 0x12], .adcAbs 0x1234), ([0x71, 0x34], .adcIndY 0x34), ([0x75, 0x34], .adcZpX 0x34),
        ([0x79, 0x34, 0x12], .adcAbsY 0x1234), ([0x7D, 0x34, 0x12], .adcAbsX 0x1234), ([0xE1, 0x34], .sbcIndX 0x34),
        ([0xE5, 0x34], .sbcZp 0x34), ([0xE9, 0x34], .sbcImm 0x34), ([0xED, 0x34, 0x12], .sbcAbs 0x1234),
        ([0xF1, 0x34], .sbcIndY 0x34), ([0xF5, 0x34], .sbcZpX 0x34), ([0xF9, 0x34, 0x12], .sbcAbsY 0x1234),
        ([0xFD, 0x34, 0x12], .sbcAbsX 0x1234), ([0xC1, 0x34], .cmpIndX 0x34), ([0xC5, 0x34], .cmpZp 0x34),
        ([0xC9, 0x34], .cmpImm 0x34), ([0xCD, 0x34, 0x12], .cmpAbs 0x1234), ([0xD1, 0x34], .cmpIndY 0x34),
        ([0xD5, 0x34], .cmpZpX 0x34), ([0xD9, 0x34, 0x12], .cmpAbsY 0x1234), ([0xDD, 0x34, 0x12], .cmpAbsX 0x1234)] = true := by decide

theorem test_decode_arithmetic_2 :
    decodesTo
      [([0xE0, 0x34], .cpxImm 0x34), ([0xE4, 0x34], .cpxZp 0x34), ([0xEC, 0x34, 0x12], .cpxAbs 0x1234),
        ([0xC0, 0x34], .cpyImm 0x34), ([0xC4, 0x34], .cpyZp 0x34), ([0xCC, 0x34, 0x12], .cpyAbs 0x1234),
        ([0xE6, 0x34], .incZp 0x34), ([0xEE, 0x34, 0x12], .incAbs 0x1234), ([0xF6, 0x34], .incZpX 0x34),
        ([0xFE, 0x34, 0x12], .incAbsX 0x1234), ([0xC6, 0x34], .decZp 0x34), ([0xCE, 0x34, 0x12], .decAbs 0x1234),
        ([0xD6, 0x34], .decZpX 0x34), ([0xDE, 0x34, 0x12], .decAbsX 0x1234), ([0xE8], .inx), ([0xC8], .iny),
        ([0xCA], .dex), ([0x88], .dey)] = true := by decide

theorem test_decode_stack :
    decodesTo
      [([0x48], .pha), ([0x08], .php), ([0x68], .pla), ([0x28], .plp), ([0xBA], .tsx), ([0x9A], .txs)] = true := by decide

theorem test_decode_control :
    decodesTo
      [([0x4C, 0x34, 0x12], .jmpAbs 0x1234), ([0x6C, 0x34, 0x12], .jmpInd 0x1234),
        ([0x20, 0x34, 0x12], .jsr 0x1234), ([0x60], .rts), ([0x00, 0x34], .brk 0x34), ([0x40], .rti),
        ([0x90, 0x34], .bcc 0x34), ([0xB0, 0x34], .bcs 0x34), ([0xF0, 0x34], .beq 0x34), ([0x30, 0x34], .bmi 0x34),
        ([0xD0, 0x34], .bne 0x34), ([0x10, 0x34], .bpl 0x34), ([0x50, 0x34], .bvc 0x34), ([0x70, 0x34], .bvs 0x34)] = true := by decide

theorem test_decode_load_store_1 :
    decodesTo
      [([0xA1, 0x34], .ldaIndX 0x34), ([0xA5, 0x34], .ldaZp 0x34), ([0xA9, 0x34], .ldaImm 0x34),
        ([0xAD, 0x34, 0x12], .ldaAbs 0x1234), ([0xB1, 0x34], .ldaIndY 0x34), ([0xB5, 0x34], .ldaZpX 0x34),
        ([0xB9, 0x34, 0x12], .ldaAbsY 0x1234), ([0xBD, 0x34, 0x12], .ldaAbsX 0x1234), ([0xA2, 0x34], .ldxImm 0x34),
        ([0xA6, 0x34], .ldxZp 0x34), ([0xAE, 0x34, 0x12], .ldxAbs 0x1234), ([0xB6, 0x34], .ldxZpY 0x34),
        ([0xBE, 0x34, 0x12], .ldxAbsY 0x1234), ([0xA0, 0x34], .ldyImm 0x34), ([0xA4, 0x34], .ldyZp 0x34),
        ([0xAC, 0x34, 0x12], .ldyAbs 0x1234), ([0xB4, 0x34], .ldyZpX 0x34), ([0xBC, 0x34, 0x12], .ldyAbsX 0x1234),
        ([0x81, 0x34], .staIndX 0x34), ([0x85, 0x34], .staZp 0x34), ([0x8D, 0x34, 0x12], .staAbs 0x1234),
        ([0x91, 0x34], .staIndY 0x34), ([0x95, 0x34], .staZpX 0x34), ([0x99, 0x34, 0x12], .staAbsY 0x1234)] = true := by decide

theorem test_decode_load_store_2 :
    decodesTo
      [([0x9D, 0x34, 0x12], .staAbsX 0x1234), ([0x86, 0x34], .stxZp 0x34), ([0x8E, 0x34, 0x12], .stxAbs 0x1234),
        ([0x96, 0x34], .stxZpY 0x34), ([0x84, 0x34], .styZp 0x34), ([0x8C, 0x34, 0x12], .styAbs 0x1234),
        ([0x94, 0x34], .styZpX 0x34)] = true := by decide

theorem test_decode_transfer :
    decodesTo
      [([0xAA], .tax), ([0xA8], .tay), ([0x8A], .txa), ([0x98], .tya)] = true := by decide

theorem test_decode_logic_1 :
    decodesTo
      [([0x21, 0x34], .andIndX 0x34), ([0x25, 0x34], .andZp 0x34), ([0x29, 0x34], .andImm 0x34),
        ([0x2D, 0x34, 0x12], .andAbs 0x1234), ([0x31, 0x34], .andIndY 0x34), ([0x35, 0x34], .andZpX 0x34),
        ([0x39, 0x34, 0x12], .andAbsY 0x1234), ([0x3D, 0x34, 0x12], .andAbsX 0x1234), ([0x01, 0x34], .oraIndX 0x34),
        ([0x05, 0x34], .oraZp 0x34), ([0x09, 0x34], .oraImm 0x34), ([0x0D, 0x34, 0x12], .oraAbs 0x1234),
        ([0x11, 0x34], .oraIndY 0x34), ([0x15, 0x34], .oraZpX 0x34), ([0x19, 0x34, 0x12], .oraAbsY 0x1234),
        ([0x1D, 0x34, 0x12], .oraAbsX 0x1234), ([0x41, 0x34], .eorIndX 0x34), ([0x45, 0x34], .eorZp 0x34),
        ([0x49, 0x34], .eorImm 0x34), ([0x4D, 0x34, 0x12], .eorAbs 0x1234), ([0x51, 0x34], .eorIndY 0x34),
        ([0x55, 0x34], .eorZpX 0x34), ([0x59, 0x34, 0x12], .eorAbsY 0x1234), ([0x5D, 0x34, 0x12], .eorAbsX 0x1234)] = true := by decide

theorem test_decode_logic_2 :
    decodesTo
      [([0x24, 0x34], .bitZp 0x34), ([0x2C, 0x34, 0x12], .bitAbs 0x1234), ([0x06, 0x34], .aslZp 0x34),
        ([0x0A], .aslAcc), ([0x0E, 0x34, 0x12], .aslAbs 0x1234), ([0x16, 0x34], .aslZpX 0x34),
        ([0x1E, 0x34, 0x12], .aslAbsX 0x1234), ([0x46, 0x34], .lsrZp 0x34), ([0x4A], .lsrAcc),
        ([0x4E, 0x34, 0x12], .lsrAbs 0x1234), ([0x56, 0x34], .lsrZpX 0x34), ([0x5E, 0x34, 0x12], .lsrAbsX 0x1234),
        ([0x26, 0x34], .rolZp 0x34), ([0x2A], .rolAcc), ([0x2E, 0x34, 0x12], .rolAbs 0x1234),
        ([0x36, 0x34], .rolZpX 0x34), ([0x3E, 0x34, 0x12], .rolAbsX 0x1234), ([0x66, 0x34], .rorZp 0x34),
        ([0x6A], .rorAcc), ([0x6E, 0x34, 0x12], .rorAbs 0x1234), ([0x76, 0x34], .rorZpX 0x34),
        ([0x7E, 0x34, 0x12], .rorAbsX 0x1234)] = true := by decide

theorem test_decode_flag_ops :
    decodesTo
      [([0x18], .clc), ([0xD8], .cld), ([0x58], .cli), ([0xB8], .clv), ([0x38], .sec), ([0xF8], .sed),
        ([0x78], .sei), ([0xEA], .nop)] = true := by decide

/-- E1 to E3 and the map's dashes: no instruction, and the reason by name. -/
theorem test_decode_unmapped :
    decode [0x02] = .error (.unmapped 0x02) ∧ decode [0xFF, 0x00] = .error (.unmapped 0xFF) ∧
      decode [0x80, 0x00] = .error (.unmapped 0x80) := ⟨rfl, rfl, rfl⟩

theorem test_decode_truncated : decode [0x69] = .error .truncated ∧ decode [0xAD, 0x00] = .error .truncated := ⟨rfl, rfl⟩

/-- Rule R461: JMP abs 3, JSR 6, LDA abs,X 4 (K3), ASL abs,X 7, BRK 7, BNE 2. -/
theorem test_base_cycles :
    [0x4C, 0x20, 0xBD, 0x1E, 0x00, 0xD0].map baseCycles = [3, 6, 4, 7, 7, 2] := by decide

/-! ## One step of each instruction: 95_test_vectors.md Part 2 -/

/-- Place bytes into a storage. -/
def place (cells : List (Nat × Byte)) (m : Mem) : Mem := cells.foldr (fun c n => Mem.put c.1 c.2 n) m

/-- The registers A, X, Y, SP, P. -/
structure Regs where
  a : Byte := 0x00
  x : Byte := 0x00
  y : Byte := 0x00
  sp : Byte := 0xFD
  p : Byte := 0x24

/-- Code at 0x0300 in RAM, PC there, and named RAM bytes. -/
def start (r : Regs) (data : List (Nat × Byte)) (b0 b1 b2 : Byte) : State :=
  { State.reset with
    a := r.a, x := r.x, y := r.y, sp := r.sp, p := r.p, pc := 0x0300
    ram := place data [(0x300, b0), (0x301, b1), (0x302, b2)] }

/-- One step ends in the state `s` with these registers, this PC, these RAM bytes written, this trace, and nothing else
changed (but for the model's draw number). -/
def ends (s : State) (r : Regs) (pc : Word) (written : List (Nat × Byte)) : Bool :=
  match step s with
  | .next t =>
    decide (t = { s with
      a := r.a, x := r.x, y := r.y, sp := r.sp, p := r.p, pc := pc, ram := place written s.ram, drawIndex := 2 })
  | .fault _ => false
  | .refused _ => false

/-- A4: ADC # (negative+negative overflow). -/
theorem test_a4_adc :
    ends (start { a := 0x80, p := 0x24 } [] 0x69 0x80 0xEA)
      { a := 0x00, p := 0x67 } 0x0302 [] = true := by decide

/-- A6: ADC # (D=1 ignored: binary result). -/
theorem test_a6_adc :
    ends (start { a := 0x01, p := 0x2D } [] 0x69 0x01 0xEA)
      { a := 0x03, p := 0x2C } 0x0302 [] = true := by decide

/-- A9: SBC # (equal with borrow in). -/
theorem test_a9_sbc :
    ends (start { a := 0x05, p := 0x24 } [] 0xE9 0x05 0xEA)
      { a := 0xFF, p := 0xA4 } 0x0302 [] = true := by decide

/-- A11: SBC # (0x80-1 overflow). -/
theorem test_a11_sbc :
    ends (start { a := 0x80, p := 0x25 } [] 0xE9 0x01 0xEA)
      { a := 0x7F, p := 0x65 } 0x0302 [] = true := by decide

/-- A15: CMP # (C cleared, carry-in unused). -/
theorem test_a15_cmp :
    ends (start { a := 0x00, p := 0x25 } [] 0xC9 0x01 0xEA)
      { a := 0x00, p := 0xA4 } 0x0302 [] = true := by decide

/-- A16: CMP # (N from difference). -/
theorem test_a16_cmp :
    ends (start { a := 0x80, p := 0x24 } [] 0xC9 0x00 0xEA)
      { a := 0x80, p := 0xA5 } 0x0302 [] = true := by decide

/-- A18: CPX #. -/
theorem test_a18_cpx :
    ends (start { x := 0x05, p := 0x24 } [] 0xE0 0x06 0xEA)
      { x := 0x05, p := 0xA4 } 0x0302 [] = true := by decide

/-- A19: CPY #. -/
theorem test_a19_cpy :
    ends (start { y := 0xFF, p := 0x24 } [] 0xC0 0x01 0xEA)
      { y := 0xFF, p := 0xA5 } 0x0302 [] = true := by decide

/-- A20: INC zp (wrap; C unchanged). -/
theorem test_a20_inc :
    ends (start { p := 0x25 } [(0x010, 0xFF)] 0xE6 0x10 0xEA)
      { p := 0x27 } 0x0302 [(0x010, 0x00)] = true := by decide

/-- A21: INC abs. -/
theorem test_a21_inc :
    ends (start { p := 0x24 } [(0x100, 0x7F)] 0xEE 0x00 0x01)
      { p := 0xA4 } 0x0303 [(0x100, 0x80)] = true := by decide

/-- A22: DEC zp. -/
theorem test_a22_dec :
    ends (start { p := 0x24 } [(0x010, 0x00)] 0xC6 0x10 0xEA)
      { p := 0xA4 } 0x0302 [(0x010, 0xFF)] = true := by decide

/-- A23: DEC zp,X (zp,X wraps to 0x10). -/
theorem test_a23_dec :
    ends (start { x := 0x11, p := 0x24 } [(0x010, 0x01)] 0xD6 0xFF 0xEA)
      { x := 0x11, p := 0x26 } 0x0302 [(0x010, 0x00)] = true := by decide

/-- A24: INX impl. -/
theorem test_a24_inx :
    ends (start { x := 0xFF, p := 0x24 } [] 0xE8 0xEA 0xEA)
      { x := 0x00, p := 0x26 } 0x0301 [] = true := by decide

/-- A25: INY impl. -/
theorem test_a25_iny :
    ends (start { y := 0x7F, p := 0x24 } [] 0xC8 0xEA 0xEA)
      { y := 0x80, p := 0xA4 } 0x0301 [] = true := by decide

/-- A26: DEX impl. -/
theorem test_a26_dex :
    ends (start { x := 0x00, p := 0x24 } [] 0xCA 0xEA 0xEA)
      { x := 0xFF, p := 0xA4 } 0x0301 [] = true := by decide

/-- A27: DEY impl. -/
theorem test_a27_dey :
    ends (start { y := 0x01, p := 0x24 } [] 0x88 0xEA 0xEA)
      { y := 0x00, p := 0x26 } 0x0301 [] = true := by decide

/-- A28: DEC abs,X (abs,X crosses page, no extra access). -/
theorem test_a28_dec :
    ends (start { x := 0x01, p := 0x24 } [(0x100, 0x80)] 0xDE 0xFF 0x00)
      { x := 0x01, p := 0x24 } 0x0303 [(0x100, 0x7F)] = true := by decide

/-- S1: PHA impl. -/
theorem test_s1_pha :
    ends (start { a := 0x12, sp := 0xFD, p := 0x24 } [] 0x48 0xEA 0xEA)
      { a := 0x12, sp := 0xFC, p := 0x24 } 0x0301 [(0x1FD, 0x12)] = true := by decide

/-- S2: PHA impl (SP wraps). -/
theorem test_s2_pha :
    ends (start { a := 0x99, sp := 0x00, p := 0x24 } [] 0x48 0xEA 0xEA)
      { a := 0x99, sp := 0xFF, p := 0x24 } 0x0301 [(0x100, 0x99)] = true := by decide

/-- S3: PHP impl. -/
theorem test_s3_php :
    ends (start { sp := 0xFD, p := 0x24 } [] 0x08 0xEA 0xEA)
      { sp := 0xFC, p := 0x24 } 0x0301 [(0x1FD, 0x34)] = true := by decide

/-- S4: PHP impl (B and U forced in copy). -/
theorem test_s4_php :
    ends (start { sp := 0xFD, p := 0xE7 } [] 0x08 0xEA 0xEA)
      { sp := 0xFC, p := 0xE7 } 0x0301 [(0x1FD, 0xF7)] = true := by decide

/-- S5: PLA impl. -/
theorem test_s5_pla :
    ends (start { sp := 0xFC, p := 0x24 } [(0x1FD, 0x80)] 0x68 0xEA 0xEA)
      { a := 0x80, sp := 0xFD, p := 0xA4 } 0x0301 [] = true := by decide

/-- S6: PLA impl (SP wraps to 0x00). -/
theorem test_s6_pla :
    ends (start { sp := 0xFF, p := 0x24 } [(0x100, 0x00)] 0x68 0xEA 0xEA)
      { sp := 0x00, p := 0x26 } 0x0301 [] = true := by decide

/-- S7: PLP impl (B dropped). -/
theorem test_s7_plp :
    ends (start { sp := 0xFC, p := 0x24 } [(0x1FD, 0xFF)] 0x28 0xEA 0xEA)
      { sp := 0xFD, p := 0xEF } 0x0301 [] = true := by decide

/-- S8: PLP impl (U kept). -/
theorem test_s8_plp :
    ends (start { sp := 0xFC, p := 0xE7 } [(0x1FD, 0x00)] 0x28 0xEA 0xEA)
      { sp := 0xFD, p := 0x20 } 0x0301 [] = true := by decide

/-- S9: TSX impl. -/
theorem test_s9_tsx :
    ends (start { sp := 0xFD, p := 0x24 } [] 0xBA 0xEA 0xEA)
      { x := 0xFD, sp := 0xFD, p := 0xA4 } 0x0301 [] = true := by decide

/-- S10: TXS impl (no flags). -/
theorem test_s10_txs :
    ends (start { x := 0x00, p := 0x26 } [] 0x9A 0xEA 0xEA)
      { x := 0x00, sp := 0x00, p := 0x26 } 0x0301 [] = true := by decide

/-- C1: JMP abs. -/
theorem test_c1_jmp :
    ends (start { p := 0x24 } [] 0x4C 0x34 0x12)
      { p := 0x24 } 0x1234 [] = true := by decide

/-- C2: JMP (ind) (page-wrap bug, source example W5 shape). -/
theorem test_c2_jmp :
    ends (start { p := 0x24 } [(0x4FF, 0x80), (0x400, 0x12), (0x500, 0x55)] 0x6C 0xFF 0x04)
      { p := 0x24 } 0x1280 [] = true := by decide

/-- C3: JMP (ind) (no bug when low byte != 0xFF). -/
theorem test_c3_jmp :
    ends (start { p := 0x24 } [(0x400, 0x80), (0x401, 0x12)] 0x6C 0x00 0x04)
      { p := 0x24 } 0x1280 [] = true := by decide

/-- C4: JSR abs. -/
theorem test_c4_jsr :
    ends (start { sp := 0xFD, p := 0x24 } [] 0x20 0x00 0x05)
      { sp := 0xFB, p := 0x24 } 0x0500 [(0x1FC, 0x02), (0x1FD, 0x03)] = true := by decide

/-- C5: JSR abs (SP wraps during push). -/
theorem test_c5_jsr :
    ends (start { sp := 0x00, p := 0x24 } [] 0x20 0x00 0x05)
      { sp := 0xFE, p := 0x24 } 0x0500 [(0x100, 0x03), (0x1FF, 0x02)] = true := by decide

/-- C6: RTS impl. -/
theorem test_c6_rts :
    ends (start { sp := 0xFB, p := 0x24 } [(0x1FC, 0x02), (0x1FD, 0x03)] 0x60 0xEA 0xEA)
      { sp := 0xFD, p := 0x24 } 0x0303 [] = true := by decide

/-- C7: RTS impl (popped 0xFFFF returns to 0x0000). -/
theorem test_c7_rts :
    ends (start { sp := 0xFB, p := 0x24 } [(0x1FC, 0xFF), (0x1FD, 0xFF)] 0x60 0xEA 0xEA)
      { sp := 0xFD, p := 0x24 } 0x0000 [] = true := by decide

/-- C8: RTI impl (B dropped, no +1). -/
theorem test_c8_rti :
    ends (start { sp := 0xFA, p := 0x24 } [(0x1FB, 0xFF), (0x1FC, 0x02), (0x1FD, 0x80)] 0x40 0xEA 0xEA)
      { sp := 0xFD, p := 0xEF } 0x8002 [] = true := by decide

/-- C9: BCC rel. -/
theorem test_c9_bcc :
    ends (start { p := 0x24 } [] 0x90 0x10 0xEA)
      { p := 0x24 } 0x0312 [] = true := by decide

/-- C10: BCC rel (not taken). -/
theorem test_c10_bcc :
    ends (start { p := 0x25 } [] 0x90 0x10 0xEA)
      { p := 0x25 } 0x0302 [] = true := by decide

/-- C11: BCS rel (offset 0xFE targets itself). -/
theorem test_c11_bcs :
    ends (start { p := 0x25 } [] 0xB0 0xFE 0xEA)
      { p := 0x25 } 0x0300 [] = true := by decide

/-- C12: BEQ rel (most negative offset). -/
theorem test_c12_beq :
    ends (start { p := 0x26 } [] 0xF0 0x80 0xEA)
      { p := 0x26 } 0x0282 [] = true := by decide

/-- C13: BMI rel (most positive offset). -/
theorem test_c13_bmi :
    ends (start { p := 0xA4 } [] 0x30 0x7F 0xEA)
      { p := 0xA4 } 0x0381 [] = true := by decide

/-- C14: BNE rel (offset 0 taken = fall through). -/
theorem test_c14_bne :
    ends (start { p := 0x24 } [] 0xD0 0x00 0xEA)
      { p := 0x24 } 0x0302 [] = true := by decide

/-- C15: BPL rel (not taken). -/
theorem test_c15_bpl :
    ends (start { p := 0xA4 } [] 0x10 0x04 0xEA)
      { p := 0xA4 } 0x0302 [] = true := by decide

/-- C16: BVC rel. -/
theorem test_c16_bvc :
    ends (start { p := 0x24 } [] 0x50 0x04 0xEA)
      { p := 0x24 } 0x0306 [] = true := by decide

/-- C17: BVS rel. -/
theorem test_c17_bvs :
    ends (start { p := 0x64 } [] 0x70 0x04 0xEA)
      { p := 0x64 } 0x0306 [] = true := by decide

/-- L1: LDA #. -/
theorem test_l1_lda :
    ends (start { p := 0x24 } [] 0xA9 0x00 0xEA)
      { p := 0x26 } 0x0302 [] = true := by decide

/-- L2: LDA zp,X (zp,X wraps). -/
theorem test_l2_lda :
    ends (start { x := 0x20, p := 0x24 } [(0x010, 0x55)] 0xB5 0xF0 0xEA)
      { a := 0x55, x := 0x20, p := 0x24 } 0x0302 [] = true := by decide

/-- L3: LDA abs,X (abs,X wraps past 0xFFFF). -/
theorem test_l3_lda :
    ends (start { x := 0x11, p := 0x24 } [(0x010, 0x80)] 0xBD 0xFF 0xFF)
      { a := 0x80, x := 0x11, p := 0xA4 } 0x0303 [] = true := by decide

/-- L4: LDA (zp,X) ((zp,X): p=0x01). -/
theorem test_l4_lda :
    ends (start { x := 0x03, p := 0x24 } [(0x001, 0x34), (0x002, 0x02), (0x234, 0x9A)] 0xA1 0xFE 0xEA)
      { a := 0x9A, x := 0x03, p := 0xA4 } 0x0302 [] = true := by decide

/-- L5: LDA (zp),Y ((zp),Y crosses page). -/
theorem test_l5_lda :
    ends (start { y := 0x10, p := 0x24 } [(0x040, 0xF8), (0x041, 0x02), (0x308, 0x00)] 0xB1 0x40 0xEA)
      { y := 0x10, p := 0x26 } 0x0302 [] = true := by decide

/-- L8: LDX zp,Y (zp,Y wraps). -/
theorem test_l8_ldx :
    ends (start { y := 0x02, p := 0x24 } [(0x001, 0x80)] 0xB6 0xFF 0xEA)
      { x := 0x80, y := 0x02, p := 0xA4 } 0x0302 [] = true := by decide

/-- L9: LDY abs,X. -/
theorem test_l9_ldy :
    ends (start { x := 0x05, p := 0x24 } [(0x205, 0x00)] 0xBC 0x00 0x02)
      { x := 0x05, p := 0x26 } 0x0303 [] = true := by decide

/-- L10: STA abs (RAM mirror 0x0805 -> ram[0x005]). -/
theorem test_l10_sta :
    ends (start { a := 0xAB, p := 0x24 } [] 0x8D 0x05 0x08)
      { a := 0xAB, p := 0x24 } 0x0303 [(0x005, 0xAB)] = true := by decide

/-- L11: STA (zp,X) ((zp,X) p=0x00 ptr 0x0700). -/
theorem test_l11_sta :
    ends (start { a := 0xCD, x := 0x01, p := 0x24 } [(0x000, 0x00), (0x001, 0x07)] 0x81 0xFF 0xEA)
      { a := 0xCD, x := 0x01, p := 0x24 } 0x0302 [(0x700, 0xCD)] = true := by decide

/-- L12: STA (zp),Y ((zp),Y 0x0601+0xFF). -/
theorem test_l12_sta :
    ends (start { a := 0x5A, y := 0xFF, p := 0x24 } [(0x010, 0x01), (0x011, 0x06)] 0x91 0x10 0xEA)
      { a := 0x5A, y := 0xFF, p := 0x24 } 0x0302 [(0x700, 0x5A)] = true := by decide

/-- L13: STX zp,Y (zp,Y wraps). -/
theorem test_l13_stx :
    ends (start { x := 0x3C, y := 0x03, p := 0x24 } [] 0x96 0xFE 0xEA)
      { x := 0x3C, y := 0x03, p := 0x24 } 0x0302 [(0x001, 0x3C)] = true := by decide

/-- L14: STY zp,X (zp,X wraps to 0x00). -/
theorem test_l14_sty :
    ends (start { x := 0x80, y := 0x77, p := 0x24 } [] 0x94 0x80 0xEA)
      { x := 0x80, y := 0x77, p := 0x24 } 0x0302 [(0x000, 0x77)] = true := by decide

/-- T1: TAX impl. -/
theorem test_t1_tax :
    ends (start { a := 0x00, x := 0x55, p := 0xA4 } [] 0xAA 0xEA 0xEA)
      { a := 0x00, x := 0x00, p := 0x26 } 0x0301 [] = true := by decide

/-- T2: TAY impl. -/
theorem test_t2_tay :
    ends (start { a := 0x90, p := 0x24 } [] 0xA8 0xEA 0xEA)
      { a := 0x90, y := 0x90, p := 0xA4 } 0x0301 [] = true := by decide

/-- T3: TXA impl. -/
theorem test_t3_txa :
    ends (start { a := 0xFF, x := 0x01, p := 0xA4 } [] 0x8A 0xEA 0xEA)
      { a := 0x01, x := 0x01, p := 0x24 } 0x0301 [] = true := by decide

/-- T4: TYA impl. -/
theorem test_t4_tya :
    ends (start { y := 0xFF, p := 0x24 } [] 0x98 0xEA 0xEA)
      { a := 0xFF, y := 0xFF, p := 0xA4 } 0x0301 [] = true := by decide

/-- G1: AND #. -/
theorem test_g1_and :
    ends (start { a := 0xF0, p := 0x24 } [] 0x29 0x3C 0xEA)
      { a := 0x30, p := 0x24 } 0x0302 [] = true := by decide

/-- G2: AND #. -/
theorem test_g2_and :
    ends (start { a := 0xFF, p := 0xA4 } [] 0x29 0x00 0xEA)
      { a := 0x00, p := 0x26 } 0x0302 [] = true := by decide

/-- G3: ORA #. -/
theorem test_g3_ora :
    ends (start { a := 0x01, p := 0x24 } [] 0x09 0x80 0xEA)
      { a := 0x81, p := 0xA4 } 0x0302 [] = true := by decide

/-- G4: EOR #. -/
theorem test_g4_eor :
    ends (start { a := 0xFF, p := 0x24 } [] 0x49 0x0F 0xEA)
      { a := 0xF0, p := 0xA4 } 0x0302 [] = true := by decide

/-- G5: EOR #. -/
theorem test_g5_eor :
    ends (start { a := 0xAA, p := 0x24 } [] 0x49 0xAA 0xEA)
      { a := 0x00, p := 0x26 } 0x0302 [] = true := by decide

/-- G6: BIT zp. -/
theorem test_g6_bit :
    ends (start { a := 0x01, p := 0x24 } [(0x010, 0xC0)] 0x24 0x10 0xEA)
      { a := 0x01, p := 0xE6 } 0x0302 [] = true := by decide

/-- G7: BIT abs (N, V cleared from m). -/
theorem test_g7_bit :
    ends (start { a := 0x0F, p := 0xE6 } [(0x200, 0x01)] 0x2C 0x00 0x02)
      { a := 0x0F, p := 0x24 } 0x0303 [] = true := by decide

/-- G8: ASL A. -/
theorem test_g8_asl :
    ends (start { a := 0x81, p := 0x24 } [] 0x0A 0xEA 0xEA)
      { a := 0x02, p := 0x25 } 0x0301 [] = true := by decide

/-- G9: ASL zp. -/
theorem test_g9_asl :
    ends (start { p := 0x24 } [(0x010, 0x80)] 0x06 0x10 0xEA)
      { p := 0x27 } 0x0302 [(0x010, 0x00)] = true := by decide

/-- G10: LSR A. -/
theorem test_g10_lsr :
    ends (start { a := 0x03, p := 0x24 } [] 0x4A 0xEA 0xEA)
      { a := 0x01, p := 0x25 } 0x0301 [] = true := by decide

/-- G11: LSR zp. -/
theorem test_g11_lsr :
    ends (start { p := 0xA4 } [(0x010, 0x01)] 0x46 0x10 0xEA)
      { p := 0x27 } 0x0302 [(0x010, 0x00)] = true := by decide

/-- G12: ROL A. -/
theorem test_g12_rol :
    ends (start { a := 0x80, p := 0x25 } [] 0x2A 0xEA 0xEA)
      { a := 0x01, p := 0x25 } 0x0301 [] = true := by decide

/-- G13: ROL zp. -/
theorem test_g13_rol :
    ends (start { p := 0x24 } [(0x010, 0x40)] 0x26 0x10 0xEA)
      { p := 0xA4 } 0x0302 [(0x010, 0x80)] = true := by decide

/-- G14: ROR A. -/
theorem test_g14_ror :
    ends (start { a := 0x01, p := 0x25 } [] 0x6A 0xEA 0xEA)
      { a := 0x80, p := 0xA5 } 0x0301 [] = true := by decide

/-- G15: ROR zp,X. -/
theorem test_g15_ror :
    ends (start { x := 0x01, p := 0x24 } [(0x010, 0x01)] 0x76 0x0F 0xEA)
      { x := 0x01, p := 0x27 } 0x0302 [(0x010, 0x00)] = true := by decide

/-- G16: ASL abs,X (abs,X page cross, RMW single write). -/
theorem test_g16_asl :
    ends (start { x := 0x01, p := 0x24 } [(0x200, 0xFF)] 0x1E 0xFF 0x01)
      { x := 0x01, p := 0xA5 } 0x0303 [(0x200, 0xFE)] = true := by decide

/-- F1: CLC impl. -/
theorem test_f1_clc :
    ends (start { p := 0x25 } [] 0x18 0xEA 0xEA)
      { p := 0x24 } 0x0301 [] = true := by decide

/-- F2: CLD impl. -/
theorem test_f2_cld :
    ends (start { p := 0x2C } [] 0xD8 0xEA 0xEA)
      { p := 0x24 } 0x0301 [] = true := by decide

/-- F3: CLI impl. -/
theorem test_f3_cli :
    ends (start { p := 0x24 } [] 0x58 0xEA 0xEA)
      { p := 0x20 } 0x0301 [] = true := by decide

/-- F4: CLV impl. -/
theorem test_f4_clv :
    ends (start { p := 0x64 } [] 0xB8 0xEA 0xEA)
      { p := 0x24 } 0x0301 [] = true := by decide

/-- F5: SEC impl. -/
theorem test_f5_sec :
    ends (start { p := 0x24 } [] 0x38 0xEA 0xEA)
      { p := 0x25 } 0x0301 [] = true := by decide

/-- F6: SED impl. -/
theorem test_f6_sed :
    ends (start { p := 0x24 } [] 0xF8 0xEA 0xEA)
      { p := 0x2C } 0x0301 [] = true := by decide

/-- F7: SEI impl. -/
theorem test_f7_sei :
    ends (start { p := 0x20 } [] 0x78 0xEA 0xEA)
      { p := 0x24 } 0x0301 [] = true := by decide

/-- F8: NOP impl. -/
theorem test_f8_nop :
    ends (start { p := 0x24 } [] 0xEA 0xEA 0xEA)
      { p := 0x24 } 0x0301 [] = true := by decide

/-- L6 and L7: the pointer at 0xFF for the two settings of ZP_PTR_WRAP. -/
theorem test_l6_l7_zp_pointer :
    (start {} [(0x0FF, 0x10), (0x000, 0x02), (0x100, 0x03)] 0xB1 0xFF 0xEA).zpPointer true 0xFF = 0x0210 ∧
      (start {} [(0x0FF, 0x10), (0x000, 0x02), (0x100, 0x03)] 0xB1 0xFF 0xEA).zpPointer false 0xFF = 0x0310 := by decide

/-- What one step leaves in a field; none for a fault or a refusal. -/
def after {α : Type} (s : State) (f : State → α) : Option α :=
  match step s with
  | .next t => some (f t)
  | .fault _ => none
  | .refused _ => none

/-- C18, with its code at 0x07F0 (log 22): the target is a plain address beyond RAM's first copy. -/
theorem test_c18_bne :
    ends { start {} [(0x7F0, 0xD0), (0x7F1, 0x7F), (0x7F2, 0xEA)] 0xEA 0xEA 0xEA with pc := 0x07F0 } {} 0x0871 [] = true := by
  decide

/-- L15: a store to 0x4014 notifies. -/
theorem test_l15_bulk_transfer :
    after (start { a := 0x02 } [] 0x8D 0x14 0x40) (fun t => (t.trace, t.apuRegs)) =
      some ([.bulkTransfer 0x02], [(0x14, 0x02)]) := by decide

/-- L16: a store to 0x4016 notifies. -/
theorem test_l16_controller_port :
    after (start { a := 0x01 } [] 0x8D 0x16 0x40) (fun t => (t.trace, t.apuRegs)) =
      some ([.controllerPort .port4016 0x01], [(0x16, 0x01)]) := by decide

/-- Program P3's ROM: BRK at 0x8002 with its signature byte, PHP after it, the BRK vector 0x9000. -/
def trapCartridge : Cartridge :=
  { blank 0 32768 0 with prgRom := [(0x0002, 0x00), (0x0003, 0xEA), (0x0004, 0x08), (0x7FFE, 0x00), (0x7FFF, 0x90)] }

/-- P3's BRK: pushes 0x8004 and 0x3D, enters 0x9000. -/
theorem test_p3_brk :
    ends { State.reset with cart := trapCartridge, pc := 0x8002, p := 0x2D } { a := 0, x := 0, y := 0, sp := 0xFA, p := 0x2D }
      0x9000 [(0x1FB, 0x3D), (0x1FC, 0x04), (0x1FD, 0x80)] = true := by decide

/-- R243: I becomes set, and the pushed copy has it as it was. -/
theorem test_brk_sets_i :
    ends { State.reset with cart := trapCartridge, pc := 0x8002, p := 0x20 } { a := 0, x := 0, y := 0, sp := 0xFA, p := 0x24 }
      0x9000 [(0x1FB, 0x30), (0x1FC, 0x04), (0x1FD, 0x80)] = true := by decide

/-- E1: the fault, and PC past the opcode byte. -/
theorem test_e1_invalid_opcode :
    step (start {} [] 0x02 0xEA 0xEA) = .fault (.invalidOpcode 0x02 0x0300) ∧
      (hostStep (start {} [] 0x02 0xEA 0xEA)).1.pc = 0x0301 ∧
      (hostStep (start {} [] 0x02 0xEA 0xEA)).1.fault = some (.invalidOpcode 0x02 0x0300) := ⟨rfl, by decide, by decide⟩

/-- K4: CPU reset keeps the recorded fault; the registers are reset all the same. -/
theorem test_k4_reset_keeps_fault :
    (hostStep (start {} [] 0x02 0xEA 0xEA)).1.cpuReset.fault = some (.invalidOpcode 0x02 0x0300) ∧
      (hostStep (start {} [] 0x02 0xEA 0xEA)).1.cpuReset.p = 0x24 ∧
      (hostStep (start {} [] 0x02 0xEA 0xEA)).1.cpuReset.a = 0x00 := by decide

/-! ## The Bus: section 2.9 -/

/-- B1 and W1: RAM repeats every 0x800. -/
theorem test_b1_ram_mirror :
    (State.reset.write 0x1805 0x42).ram = [(0x005, 0x42)] ∧ (State.reset.write 0x1805 0x42).read 0x0005 = 0x42 ∧
      (State.reset.write 0x1FFF 0x3C).read 0x07FF = 0x3C := by decide

/-- B2 and W2: the video window repeats every 8 and sends nothing. -/
theorem test_b2_video_mirror :
    (State.reset.write 0x2000 0x80).read 0x3FF8 = 0x80 ∧ (State.reset.write 0x3FFF 0x01).read 0x2007 = 0x01 ∧
      (State.reset.write 0x3FFF 0x01).trace = [] := by decide

/-- B3, B4 and B6: the audio/IO window. -/
theorem test_b4_audio :
    (State.reset.write 0x4016 0x01).read 0x4016 = 0x01 ∧
      (State.reset.write 0x4016 0x01).trace = [.controllerPort .port4016 0x01] ∧
      (State.reset.write 0x4015 0x0F).trace = [] ∧ (State.reset.write 0x401F 0x33).apuRegs = [(0x1F, 0x33)] := by decide

/-- B7 and B8: open-bus reads are draws; writes there and to NROM change nothing. -/
theorem test_b7_open_bus :
    State.reset.read 0x4020 = Config.openBusRead 0 0x4020 ∧ State.reset.read 0x6000 = Config.openBusRead 0 0x6000 ∧
      State.reset.write 0x5000 0x77 = State.reset ∧ State.reset.write 0x8000 0x77 = State.reset := ⟨rfl, rfl, rfl, rfl⟩

/-- B9: read16 wraps from 0xFFFF to 0x0000; 0xFFFF is blank ROM here. -/
theorem test_b9_read16_wraps : (State.reset.write 0x0000 0x42).read16 0xFFFF = 0x42FF := by decide

/-- W6: one 16 KB bank appears at both halves. -/
theorem test_w6_nrom_mirror :
    ({ State.reset with cart := { blank 0 16384 0 with prgRom := [(0x0123, 0x9C)] } } : State).read 0x8123 = 0x9C ∧
      ({ State.reset with cart := { blank 0 16384 0 with prgRom := [(0x0123, 0x9C)] } } : State).read 0xC123 = 0x9C := by
  decide

/-! ## MMC1: section 2.10 -/

/-- The state `construct` builds. -/
def built (c : Cartridge) : State :=
  match construct c with
  | .next s => s
  | .fault _ => State.reset
  | .refused _ => State.reset

/-- 128 KB PRG with byte 0 of 16 KB bank k equal to k; 32 KB CHR-ROM; header mirroring vertical. -/
def mmc1Cartridge : Cartridge :=
  { blank 1 131072 32768 with
    prgRom := [(0, 0), (0x4000, 1), (0x8000, 2), (0xC000, 3), (0x10000, 4), (0x14000, 5), (0x18000, 6), (0x1C000, 7)] }

/-- The MMC1 registers. -/
def mmc1Of (s : State) : Option Mmc1 :=
  match s.mapper with
  | .nrom => none
  | .mmc1 r => some r
  | .mmc3 _ => none

/-- Writes in order, oldest first. -/
def writes (s : State) (l : List (Word × Byte)) : State := l.foldl (fun t w => t.write w.1 w.2) s

/-- `ser(a, x)`: the five low bits of x, least significant first. -/
def ser (s : State) (a : Word) (x : Nat) : State :=
  writes s ([0, 1, 2, 3, 4].map (fun i => (a, BitVec.ofNat 8 (x / 2 ^ i % 2))))

/-- The banks at 0x8000 and 0xC000, and the mirroring mode. -/
def mmc1View (s : State) : Byte × Byte × Mirroring := (s.read 0x8000, s.read 0xC000, s.mirroring)

/-- M1. -/
theorem test_m1_construction :
    mmc1View (built mmc1Cartridge) = (0, 7, .vertical) ∧ mmc1Of (built mmc1Cartridge) = some Mmc1.powerOn := by decide

/-- M2 and M3: a latch of prgBank, then of control. -/
theorem test_m2_m3_latches :
    mmc1View (ser (built mmc1Cartridge) 0xE000 0x03) = (3, 7, .vertical) ∧
      mmc1View (ser (ser (built mmc1Cartridge) 0xE000 0x03) 0x8000 0x08) = (0, 3, .singleScreenLower) := by decide

/-- M4: PRG mode 0 ignores bit 0 of prgBank. -/
theorem test_m4_prg_mode_0 :
    mmc1View (ser (ser (built mmc1Cartridge) 0xE000 0x03) 0x8000 0x00) = (2, 3, .singleScreenLower) := by decide

/-- M5: three bits, then the reset write, which leaves the mirroring mode. -/
theorem test_m5_reset_write :
    (mmc1Of (writes (ser (built mmc1Cartridge) 0x8000 0x00) [(0x8000, 1), (0x8000, 1), (0x8000, 1)])).map
        (fun r => (r.shiftReg, r.shiftCount)) = some (0x1C, 3) ∧
      (mmc1Of (writes (ser (built mmc1Cartridge) 0x8000 0x00) [(0x8000, 1), (0x8000, 1), (0x9000, 0x80)])).map
        (fun r => (r.shiftReg, r.shiftCount, r.control)) = some (0, 0, 0x0C) ∧
      (writes (ser (built mmc1Cartridge) 0x8000 0x00) [(0x9000, 0x80)]).mirroring = .singleScreenLower := by decide

/-- M6 and M7: only bit 0 counts; only the fifth address selects. -/
theorem test_m6_m7_serial :
    (mmc1Of (writes (built mmc1Cartridge)
        [(0x8000, 0x7F), (0x8000, 0x7E), (0x8000, 0x7F), (0x8000, 0x7E), (0x8000, 0x01)])).map Mmc1.control = some 0x15 ∧
      (mmc1Of (writes (built mmc1Cartridge) [(0x8000, 1), (0x8000, 1), (0xA000, 1), (0xC000, 1), (0xE000, 0)])).map
        (fun r => (r.prgBank, r.control)) = some (0x0F, 0x0C) := by decide

/-- M8 to M10: bit 4 of prgBank disables PRG-RAM. -/
theorem test_m9_prg_ram :
    ((built mmc1Cartridge).write 0x6000 0x5A).read 0x6000 = 0x5A ∧
      ((ser (built mmc1Cartridge) 0xE000 0x12).write 0x6000 0x11).prgRam = [] := by decide

/-- M11 and M12: CHR modes 1 and 0. -/
theorem test_m11_m12_chr :
    (let s := ser (ser (ser (built mmc1Cartridge) 0x8000 0x1E) 0xA000 0x02) 0xC000 0x05
    [0x0000, 0x1000, 0x1FFF].map (chrIndex s.cart s.mapper) = [0x2000, 0x5000, 0x5FFF]) ∧
      (let s := ser (ser (built mmc1Cartridge) 0x8000 0x0F) 0xA000 0x03
      [0x0000, 0x1000].map (chrIndex s.cart s.mapper) = [0x2000, 0x3000] ∧ s.mirroring = .horizontal) := by decide

/-- M15: mapper reset. -/
theorem test_m15_mapper_reset :
    mmc1View (mapperReset (ser (built mmc1Cartridge) 0x8000 0x08)) = (0, 7, .vertical) := by decide

/-! ## MMC3: section 2.11 -/

/-- 128 KB PRG with byte 0 of 8 KB bank k equal to k; 256 KB CHR-ROM. -/
def mmc3Cartridge : Cartridge :=
  { blank 4 131072 262144 with
    prgRom := [(0, 0), (0x2000, 1), (0x4000, 2), (0x6000, 3), (0x8000, 4), (0xA000, 5), (0xC000, 6), (0xE000, 7),
      (0x10000, 8), (0x12000, 9), (0x14000, 10), (0x16000, 11), (0x18000, 12), (0x1A000, 13), (0x1C000, 14),
      (0x1E000, 15)] }

/-- The banks at 0x8000, 0xA000, 0xC000, 0xE000. -/
def mmc3Banks (s : State) : List Byte := [s.read 0x8000, s.read 0xA000, s.read 0xC000, s.read 0xE000]

/-- X1 and X2. -/
theorem test_x1_x2_prg :
    mmc3Banks (built mmc3Cartridge) = [0, 0, 14, 15] ∧
      mmc3Banks (writes (built mmc3Cartridge) [(0x8000, 6), (0x8001, 3), (0x8000, 7), (0x8001, 5)]) = [3, 5, 14, 15] := by
  decide

/-- X3 and X4: PRG mode 1; an odd address of sub-window 0 is bank data. -/
theorem test_x3_x4_prg :
    mmc3Banks (writes (built mmc3Cartridge) [(0x8000, 6), (0x8001, 3), (0x8000, 7), (0x8001, 5), (0x8000, 0x46)]) =
        [14, 5, 3, 15] ∧
      mmc3Banks (writes (built mmc3Cartridge) [(0x8000, 7), (0x8001, 5), (0x8000, 0x46), (0x9FFF, 0x13)]) =
        [14, 5, 3, 15] := by decide

/-- The CHR indices of the eight 1 KB slots. -/
def mmc3Chr (s : State) : List Nat :=
  [0x0000, 0x0400, 0x0800, 0x0C00, 0x1000, 0x1400, 0x1800, 0x1C00].map (chrIndex s.cart s.mapper)

/-- X5's register writes. -/
def chrWrites : List (Word × Byte) :=
  [(0x8000, 0), (0x8001, 0x11), (0x8000, 1), (0x8001, 0x20), (0x8000, 2), (0x8001, 0x30), (0x8000, 3), (0x8001, 0x31),
    (0x8000, 4), (0x8001, 0x32), (0x8000, 5), (0x8001, 0x33)]

/-- X5 and X6: CHR without and with the inversion. -/
theorem test_x5_x6_chr :
    mmc3Chr (writes (built mmc3Cartridge) chrWrites) =
        [0x4000, 0x4400, 0x8000, 0x8400, 0xC000, 0xC400, 0xC800, 0xCC00] ∧
      mmc3Chr (writes (built mmc3Cartridge) (chrWrites ++ [(0x8000, 0x80)])) =
        [0xC000, 0xC400, 0xC800, 0xCC00, 0x4000, 0x4400, 0x8000, 0x8400] := by decide

/-- X7: only bit 0 selects the mirroring mode. -/
theorem test_x7_mirroring :
    (writes (built mmc3Cartridge) [(0xA000, 0x01)]).mirroring = .horizontal ∧
      (writes (built mmc3Cartridge) [(0xA000, 0x01), (0xBFFE, 0xFE)]).mirroring = .vertical := by decide

/-- X8 and X10: the protect bit. -/
theorem test_x8_protect :
    (writes (built mmc3Cartridge) [(0x6000, 0x42), (0xA001, 0xC0), (0x6000, 0x99)]).read 0x6000 = 0x42 := by decide

/-- X9: the disabled read is the draw. -/
theorem test_x9_disabled :
    (writes (built mmc3Cartridge) [(0x6000, 0x42), (0xA001, 0x00)]).read 0x6000 = Config.openBusRead 0 0x6000 := rfl

/-- What the first calls of `onScanline()` return. -/
def scanlines (s : State) (l : List Nat) : List Bool := l.map (fun k => (onScanline (afterScanlines k s)).2)

/-- X11, which is W8: L = 3. -/
theorem test_x11_scanline :
    scanlines (writes (built mmc3Cartridge) [(0xC000, 0x03), (0xC001, 0), (0xE001, 0)]) [0, 1, 2, 3, 4, 5] =
      [false, false, false, true, true, true] := by decide

/-- X13 and X14: L = 0; and a disabled counter raises nothing. -/
theorem test_x13_x14_scanline :
    scanlines (writes (built mmc3Cartridge) [(0xC000, 0), (0xC001, 0), (0xE001, 0)]) [0, 1] = [true, true] ∧
      scanlines (writes (built mmc3Cartridge) [(0xC000, 2), (0xC001, 0)]) [0, 1, 2, 3] = [false, false, false, false] := by
  decide

/-- X12: a disable clears the pending bit and keeps the counter. -/
theorem test_x12_disable :
    (match ((afterScanlines 6 (writes (built mmc3Cartridge) [(0xC000, 0x03), (0xC001, 0), (0xE001, 0)])).write
        0xE000 0).mapper with
    | .mmc3 r => decide (r.irqPending = false ∧ r.irqEnabled = false ∧ r.irqCounter = 2)
    | .nrom => false
    | .mmc1 _ => false) = true := by decide

/-! ## Reset, clock and host calls: section 2.12 -/

/-- W3: construction resets the CPU and reads the vector through the mapper. -/
theorem test_w3_reset :
    (let s := built { blank 0 32768 0 with prgRom := [(0x7FFC, 0x00), (0x7FFD, 0x80)] }
    (s.a, s.x, s.y, s.sp, s.p, s.pc, s.cyclesRemaining)) = (0, 0, 0, 0xFD, 0x24, 0x8000, 0) := by decide

/-- K2: clocks 1, 2 and 3 of LDA #1; STA 0x0200. -/
theorem test_k2_clock :
    (let s := { start {} [(0x303, 0x00), (0x304, 0x02)] 0xA9 0x01 0x8D with cyclesRemaining := 0 }
    let s1 := (clock s).1
    let s2 := (clock s1).1
    let s3 := (clock s2).1
    (s1.a, s1.cyclesRemaining, s2.pc, s2.cyclesRemaining, s3.read 0x0200, s3.cyclesRemaining)) =
      (0x01, 1, 0x0302, 0, 0x01, 3) := by decide

/-- R403: the factory knows mappers 0, 1 and 4. -/
theorem test_unsupported_mapper : construct (blank 2 16384 0) = .fault (.unsupportedMapper 2) := rfl

/-- R53, R69: data outside a byte is refused; an address is masked. -/
theorem test_host_write :
    hostWrite State.reset 0x10005 256 = .refused .hostDataOutOfRange ∧
      hostWrite State.reset 0x10005 0xFF = .next (State.reset.write 0x0005 0xFF) := ⟨rfl, rfl⟩

/-- R75: CHR-RAM takes a write; an address outside 0x0000–0x1FFF is refused. -/
theorem test_ppu_port :
    ppuRead State.reset 0x2000 = .refused .chrAddressOutOfRange ∧
      ppuWrite State.reset 0x1FFF 0x42 = .next { State.reset with chrRam := [(0x1FFF, 0x42)] } := ⟨rfl, rfl⟩

/-- An instruction placed at the reset PC, across the top of memory, is the one `step` fetches. -/
theorem test_with_fetch_word :
    (State.reset.withFetchWord 16 0x50A9).fetchInstr = some (.ldaImm 0x50) ∧
      (State.reset.withFetchWord 24 0x1234AD).fetchInstr = some (.ldaAbs 0x1234) ∧
      decodeTableWord 16 0x50A9 = some (.ldaImm 0x50) := by decide

/-- The host's package is this machine. -/
theorem test_core : core.reset = State.reset := rfl

/-! ## Witnesses: for each statement with hypotheses, concrete values that meet them, each clause at its boundaries -/

/-- A small code state: NOP at 0x0300. -/
def nopState : State := start {} [] 0xEA 0xEA 0xEA

/-- A state with an unmapped opcode at PC. -/
def badState : State := start {} [] 0x02 0xEA 0xEA

/-- An MMC1 state with the given registers, and an MMC3 one. -/
def withMmc1 (r : Mmc1) : State := { built mmc1Cartridge with mapper := .mmc1 r }
@[inherit_doc withMmc1]
def withMmc3 (r : Mmc3) : State := { built mmc3Cartridge with mapper := .mmc3 r }

/-- A step that leaves something is a next state. -/
theorem next_of_after {s : State} (h : (after s State.pc).isSome = true) : ∃ t, step s = .next t := by
  unfold after at h
  cases hs : step s with
  | next t => exact ⟨t, rfl⟩
  | fault f => rw [hs] at h; cases h
  | refused r => rw [hs] at h; cases h

theorem witness_RegistersChangeOnlyByTheirWriters :
    writesA .nop = false ∧ writesX .nop = false ∧ writesY .nop = false ∧ writesSp .nop = false ∧
      writesA (.aslZp 0) = false ∧ writesA .aslAcc = true := by decide

theorem witness_FlagsChangeOnlyByTheirWriters :
    statusOk State.reset.p = true ∧ writesFlag .nop .carry = false ∧ writesFlag .nop .zero = false ∧
      writesFlag (.adcImm 1) .interruptDisable = false ∧ writesFlag (.adcImm 1) .decimal = false ∧
      writesFlag .plp .breakCommand = false ∧ writesFlag .rti .unused = false ∧ writesFlag .inx .overflow = false ∧
      writesFlag .txs .negative = false := by decide

/-- A check over the stored addresses, one by one. -/
theorem all_addrs {P : Word → Prop} [DecidablePred P] {l : List Word} (h : l.all (fun ea => decide (P ea)) = true) :
    ∀ ea ∈ l, P ea := by simpa using h

theorem witness_BytesChangeOnlyWhereStored :
    (∀ ea ∈ storedAddrs (.staAbs 0x1805) nopState, storeReaches ea 0x0006 = false) ∧
      (∀ ea ∈ storedAddrs (.staAbs 0x8000) nopState, storeReaches ea 0x5FFF = false) ∧
      (∀ ea ∈ storedAddrs (.brk 0) nopState, storeReaches ea 0x01FA = false) ∧
      (∀ ea ∈ storedAddrs .nop nopState, storeReaches ea 0x0300 = false) ∧
      storeReaches 0x1805 0x0005 = true ∧ storeReaches 0x8000 0x6000 = true :=
  ⟨all_addrs (by decide), all_addrs (by decide), all_addrs (by decide), all_addrs (by decide), by decide, by decide⟩

theorem witness_TheTraceOnlyGrowsByNotifyingStores :
    (∀ ea ∈ storedAddrs (.staAbs 0x4015) nopState, ea ≠ 0x4014 ∧ ea ≠ 0x4016 ∧ ea ≠ 0x4017) ∧
      (∀ ea ∈ storedAddrs (.staAbs 0x4018) nopState, ea ≠ 0x4014 ∧ ea ≠ 0x4016 ∧ ea ≠ 0x4017) :=
  ⟨all_addrs (by decide), all_addrs (by decide)⟩

theorem witness_DecimalFlagNeverMatters :
    [Mnemonic.php, .plp, .brk, .rti, .sed, .cld].contains (Instr.adcImm 1).mnemonic = false := by decide

theorem witness_ReturnsUndoTheirCalls : statusOk State.reset.p = true := by decide

theorem witness_RamIsMirroredFourTimes :
    (0x0000 : Word).toNat < 0x2000 ∧ (0x1FFF : Word).toNat < 0x2000 ∧
      (0x1FFF : Word).toNat % 2048 = (0x07FF : Word).toNat % 2048 ∧
      (0x0800 : Word).toNat % 2048 ≠ (0x0001 : Word).toNat % 2048 := by decide

theorem witness_VideoRegistersRepeatEveryEightBytes :
    0x2000 ≤ (0x2000 : Word).toNat ∧ (0x2000 : Word).toNat < 0x4000 ∧ 0x2000 ≤ (0x3FFF : Word).toNat ∧
      (0x3FFF : Word).toNat < 0x4000 ∧ (0x3FFF : Word).toNat % 8 = (0x2007 : Word).toNat % 8 := by decide

theorem witness_AudioWritesStoreAndNotify :
    0x4000 ≤ (0x4000 : Word).toNat ∧ (0x401F : Word).toNat < 0x4020 ∧ 0x4000 ≤ (0x4014 : Word).toNat ∧
      (0x4017 : Word).toNat < 0x4020 := by decide

theorem witness_ExpansionRangeHoldsNothing :
    0x4020 ≤ (0x4020 : Word).toNat ∧ (0x4020 : Word).toNat < 0x6000 ∧ 0x4020 ≤ (0x5FFF : Word).toNat ∧
      (0x5FFF : Word).toNat < 0x6000 := by decide

theorem witness_NromReadsItsOneOrTwoBanks :
    State.reset.mapper = .nrom ∧ State.reset.cart.prgRomSize = 32768 ∧
      (built (blank 0 16384 0)).mapper = .nrom ∧ (built (blank 0 16384 0)).cart.prgRomSize = 16384 ∧
      0x8000 ≤ (0x8000 : Word).toNat ∧ (0x7FFF : Word).toNat < 0x8000 ∧ 0x4020 ≤ (0x4020 : Word).toNat := by decide

theorem witness_PrgRamFollowsItsEnables :
    0x6000 ≤ (0x6000 : Word).toNat ∧ (0x7FFF : Word).toNat < 0x8000 ∧ (0x6000 : Word) ≠ 0x7FFF ∧
      (withMmc1 Mmc1.powerOn).mapper = .mmc1 Mmc1.powerOn ∧ Mmc1.powerOn.prgBank.getLsbD 4 = false ∧
      ({ Mmc1.powerOn with prgBank := 0x10 } : Mmc1).prgBank.getLsbD 4 = true ∧
      (withMmc3 Mmc3.powerOn).mapper = .mmc3 Mmc3.powerOn ∧ Mmc3.powerOn.prgRamEnable = true ∧
      Mmc3.powerOn.prgRamWriteProtect = false ∧
      ({ Mmc3.powerOn with prgRamEnable := false } : Mmc3).prgRamEnable = false := by decide

theorem witness_Mmc1SingleWriteProtocol :
    (withMmc1 { Mmc1.powerOn with shiftCount := 4 }).mapper = .mmc1 { Mmc1.powerOn with shiftCount := 4 } ∧
      (0x80 : Byte).getLsbD 7 = true ∧ (0x7F : Byte).getLsbD 7 = false ∧ 0x8000 ≤ (0x8000 : Word).toNat ∧
      (0x9FFF : Word).toNat / 8192 % 4 = 0 ∧ (0xA000 : Word).toNat / 8192 % 4 = 1 ∧
      (0xDFFF : Word).toNat / 8192 % 4 = 2 ∧ (0xE000 : Word).toNat / 8192 % 4 = 3 ∧
      (Mmc1.powerOn.shiftCount.val ≠ 4) := by decide

theorem witness_Mmc1FiveWritesLatchTheirBits :
    (withMmc1 Mmc1.powerOn).mapper = .mmc1 Mmc1.powerOn ∧ Mmc1.powerOn.shiftCount = 0 ∧ 0x8000 ≤ (0x8000 : Word).toNat ∧
      0x8000 ≤ (0xFFFF : Word).toNat ∧ (0x7F : Byte).getLsbD 7 = false := by decide

theorem witness_Mmc1MapsPrgByMode :
    [0x00, 0x04, 0x08, 0x0C].map (fun c : BitVec 5 => ((c >>> 2) &&& 3).toNat) = [0, 1, 2, 3] ∧
      (withMmc1 { Mmc1.powerOn with control := 0x08 }).mapper = .mmc1 { Mmc1.powerOn with control := 0x08 } ∧
      (0xBFFF : Word).toNat < 0xC000 ∧ 0x8000 ≤ (0xC000 : Word).toNat := by decide

theorem witness_Mmc3RegisterWrites :
    (withMmc3 Mmc3.powerOn).mapper = .mmc3 Mmc3.powerOn ∧ 0x8000 ≤ (0x8000 : Word).toNat ∧
      [0x8000, 0x9FFF, 0xA000, 0xBFFF, 0xC000, 0xDFFF, 0xE000, 0xFFFF].map
        (fun a : Word => (a.toNat / 8192 % 4, a.toNat % 2)) =
        [(0, 0), (0, 1), (1, 0), (1, 1), (2, 0), (2, 1), (3, 0), (3, 1)] := by decide

theorem witness_Mmc3MapsPrgBySlot :
    (withMmc3 { Mmc3.powerOn with bankSelect := 0x40 }).mapper = .mmc3 { Mmc3.powerOn with bankSelect := 0x40 } ∧
      (0x40 : Byte).getLsbD 6 = true ∧ 0x8000 ≤ (0xFFFF : Word).toNat := by decide

theorem witness_ChrTranslationsOfTheThreeMappers : 0x0000 < 0x2000 ∧ 0x1FFF < 0x2000 := by decide

theorem witness_BankOffsetsLandInsideTheirBuffers :
    mmc1Cartridge.wf = true ∧ variantOk mmc1Cartridge (.mmc1 Mmc1.powerOn) = true ∧ mmc3Cartridge.wf = true ∧
      variantOk mmc3Cartridge (.mmc3 Mmc3.powerOn) = true ∧ blankCartridge.wf = true ∧
      variantOk blankCartridge .nrom = true := by decide

theorem witness_ChrPortReadsAndWrites :
    ¬ (0 ≤ (-1 : Int) ∧ (-1 : Int) < 0x2000) ∧ ¬ (0 ≤ (0x2000 : Int) ∧ (0x2000 : Int) < 0x2000) ∧
      (0 ≤ (0x1FFF : Int) ∧ (0x1FFF : Int) < 0x2000) ∧ (0 ≤ (0 : Int) ∧ (0 : Int) < 0x2000) ∧
      State.reset.cart.chrDataSize = 0 ∧ (built mmc1Cartridge).cart.chrDataSize ≠ 0 := by decide

theorem witness_ScanlineCounterCountsOnce :
    (withMmc3 Mmc3.powerOn).mapper = .mmc3 Mmc3.powerOn ∧ State.reset.mapper = .nrom ∧
      (withMmc1 Mmc1.powerOn).mapper = .mmc1 Mmc1.powerOn := by decide

/-- MMC3 registers after W8's three writes. -/
def armed : Mmc3 := { Mmc3.powerOn with irqLatch := 3, irqReload := true, irqEnabled := true }

theorem witness_ScanlineInterruptComesAtCallLPlusOne :
    (withMmc3 armed).mapper = .mmc3 armed ∧ armed.irqReload = true ∧ armed.irqCounter = 0 ∧ armed.irqEnabled = true ∧
      armed.irqPending = false ∧ 0 ≤ armed.irqLatch.toNat ∧ 3 ≤ armed.irqLatch.toNat := by decide

theorem witness_UnmappedOpcodesFaultAtDecode :
    badState.fault = none ∧ (opcodeEntry (badState.read badState.pc).toNat).isNone = true := by decide

theorem witness_FaultedStateIsQuiescent :
    (hostStep badState).1.fault = some (.invalidOpcode 0x02 0x0300) := by decide

theorem witness_ConstructionBuildsResetsOrRefuses :
    (blank 2 16384 0).mapperNumber ≠ 0 ∧ (blank 2 16384 0).mapperNumber ≠ 1 ∧ (blank 2 16384 0).mapperNumber ≠ 4 ∧
      (blank 1 0 0).mapperNumber = 1 ∧ (blank 1 0 0).wf = false ∧ blankCartridge.mapperNumber = 0 ∧
      blankCartridge.wf = true ∧ mmc3Cartridge.mapperNumber = 4 ∧ mmc3Cartridge.wf = true := by decide

theorem witness_MapperResetRestoresPowerOn :
    State.reset.mapper = .nrom ∧ (withMmc1 { Mmc1.powerOn with control := 3 }).mapper = .mmc1 { Mmc1.powerOn with control := 3 } ∧
      (withMmc3 armed).mapper = .mmc3 armed := by decide

theorem witness_RawHostAccessesAreBusAccesses :
    (0 ≤ (0 : Int) ∧ (0 : Int) ≤ 255) ∧ (0 ≤ (255 : Int) ∧ (255 : Int) ≤ 255) ∧
      ¬ (0 ≤ (256 : Int) ∧ (256 : Int) ≤ 255) ∧ ¬ (0 ≤ (-1 : Int) ∧ (-1 : Int) ≤ 255) := by decide

theorem witness_ClockRunsAnInstructionInItsFirstCycle :
    (nopState.fault = none ∧ nopState.cyclesRemaining = 0 ∧ ∃ t, step nopState = .next t) ∧
      (badState.fault = none ∧ badState.cyclesRemaining = 0 ∧ step badState = .fault (.invalidOpcode 0x02 0x0300)) ∧
      ({ nopState with cyclesRemaining := 1 } : State).cyclesRemaining ≠ 0 :=
  ⟨⟨rfl, rfl, next_of_after (by decide)⟩, ⟨rfl, rfl, rfl⟩, by decide⟩

/-- One corner of R461's table for each clause: the 7-cycle BRK, the 5-cycle store (abs,X), a 2-cycle step. -/
theorem witness_BaseCyclesFollowTheTable :
    encode (.brk 0xEA) = [0x00, 0xEA] ∧ encode (.staAbsX 0x01FF) = [0x9D, 0xFF, 0x01] ∧
      (decode [nopState.read nopState.pc, nopState.read (nopState.pc + 1), nopState.read (nopState.pc + 2)] =
        .ok (.nop, [0xEA, 0xEA]) ∧ ∃ t, step nopState = .next t) ∧
      (opcodeEntry (0x00 : Byte).toNat).isSome = true ∧ (opcodeEntry (0xFE : Byte).toNat).isSome = true :=
  ⟨rfl, rfl, ⟨rfl, next_of_after (by decide)⟩, by decide, by decide⟩

theorem witness_StepRunsTheDecodedInstruction :
    nopState.fault = none ∧ Instr.nop.wf = true ∧
      decode [nopState.read nopState.pc, nopState.read (nopState.pc + 1), nopState.read (nopState.pc + 2)] =
        .ok (.nop, [0xEA, 0xEA]) ∧
      ∃ t, exec .nop { nopState with drawIndex := nopState.drawIndex + 1 } = .next t := ⟨rfl, rfl, rfl, _, rfl⟩

theorem witness_DecodeUndoesEncode : (Instr.adcAbs 0xFFFF).wf = true := by decide

theorem witness_EncodeUndoesDecode : decode [0x6D, 0xFF, 0x00, 0xEA] = .ok (.adcAbs 0x00FF, [0xEA]) := rfl

theorem nopState_inv : nopState.Inv := ⟨by decide, by decide, by decide, by decide, by decide⟩

theorem witness_EveryStepKeepsTheInvariant : nopState.Inv ∧ ∃ t, step nopState = .next t :=
  ⟨nopState_inv, next_of_after (by decide)⟩

theorem witness_HostOperationsKeepTheInvariant :
    nopState.Inv ∧ (∃ s, construct blankCartridge = .next s) ∧ (∃ t, hostWrite nopState 0 255 = .next t) ∧
      ∃ t, ppuWrite nopState 0x1FFF 0x42 = .next t :=
  ⟨nopState_inv, ⟨State.reset, rfl⟩, ⟨nopState.write 0x0000 0xFF, rfl⟩,
    ⟨{ nopState with chrRam := [(0x1FFF, 0x42)] }, rfl⟩⟩

theorem witness_PendingInterruptNeverReachesTheCpu :
    (∃ t, step { nopState with mapper := .mmc3 armed } = .next t) ∧
      step { badState with mapper := .mmc3 armed } = .fault (.invalidOpcode 0x02 0x0300) :=
  ⟨next_of_after (by decide), rfl⟩

end Sys2Proof.Tests
end

/-! # Construction

The CPU reset and the mapper factory, each said once, and the three answers of `construct` (R72, R403, R405, R450, R451). -/

namespace Sys2Proof.Machine

/-! ### The CPU reset -/

/-- The whole effect of the CPU reset (R451, R452, R453). -/
theorem State.cpuReset_eq (s : State) :
    s.cpuReset =
      { s with
        a := 0, x := 0, y := 0, sp := 0xFD, p := 0x24
        pc := s.read 0xFFFD ++ s.read 0xFFFC
        cyclesRemaining := 0 } := rfl

/-! ### The mapper factory -/

theorem mapperFor_eq_none {n : Nat} (h0 : n ≠ 0) (h1 : n ≠ 1) (h4 : n ≠ 4) : mapperFor n = none := by
  unfold mapperFor
  split
  · contradiction
  · contradiction
  · contradiction
  · rfl

theorem mapperFor_supported {n : Nat} (h : n = 0 ∨ n = 1 ∨ n = 4) : ∃ m, mapperFor n = some m := by
  rcases h with rfl | rfl | rfl <;> exact ⟨_, rfl⟩

/-- What the factory can build: each variant for its own number, its registers at power-on (R72, R80, R106, R122). -/
theorem mapperFor_cases {n : Nat} {m : Mapper} (h : mapperFor n = some m) :
    (n = 0 ∧ m = .nrom) ∨ (n = 1 ∧ m = .mmc1 Mmc1.powerOn) ∨ (n = 4 ∧ m = .mmc3 Mmc3.powerOn) := by
  unfold mapperFor at h
  split at h <;> cases h <;> simp

theorem variantOk_of_mapperFor {c : Cartridge} {m : Mapper} (h : mapperFor c.mapperNumber = some m) :
    variantOk c m = true := by
  rcases mapperFor_cases h with ⟨hn, rfl⟩ | ⟨hn, rfl⟩ | ⟨hn, rfl⟩ <;> simp [variantOk, hn]

theorem eq_powerOn_of_mapperFor_mmc1 {n : Nat} {r : Mmc1} (h : mapperFor n = some (.mmc1 r)) : r = Mmc1.powerOn := by
  have hr : n = 1 ∧ r = Mmc1.powerOn := by simpa using mapperFor_cases h
  exact hr.2

theorem eq_powerOn_of_mapperFor_mmc3 {n : Nat} {r : Mmc3} (h : mapperFor n = some (.mmc3 r)) : r = Mmc3.powerOn := by
  have hr : n = 4 ∧ r = Mmc3.powerOn := by simpa using mapperFor_cases h
  exact hr.2

/-! ### The answers of `construct` -/

theorem construct_of_mapperFor_none {c : Cartridge} (h : mapperFor c.mapperNumber = none) :
    construct c = .fault (.unsupportedMapper c.mapperNumber) := by
  simp [construct, h]

theorem construct_of_not_wf {c : Cartridge} {m : Mapper} (h : mapperFor c.mapperNumber = some m) (hwf : c.wf = false) :
    construct c = .refused .cartridgePremise := by
  simp [construct, h, hwf]

theorem construct_of_wf {c : Cartridge} {m : Mapper} (h : mapperFor c.mapperNumber = some m) (hwf : c.wf = true) :
    construct c = .next (unresetState c m).cpuReset := by
  simp [construct, h, hwf]

end Sys2Proof.Machine

namespace Sys2Proof.Claims

open Sys2Proof.Machine

/-- Settles O47: the factory's three numbers and the launch premises choose the answer; the state answered is the CPU
reset of the block with the factory's mapper. -/
theorem constructionBuildsResetsOrRefuses : Obligations.ConstructionBuildsResetsOrRefuses := by
  intro c
  refine ⟨fun h0 h1 h4 => construct_of_mapperFor_none (mapperFor_eq_none h0 h1 h4), fun hn hwf => ?_, fun hn hwf => ?_⟩
  · obtain ⟨m, hm⟩ := mapperFor_supported hn
    exact construct_of_not_wf hm hwf
  · obtain ⟨m, hm⟩ := mapperFor_supported hn
    refine ⟨_, construct_of_wf hm hwf, ?_⟩
    rw [State.cpuReset_eq]
    refine ⟨rfl, rfl, rfl, rfl, rfl, rfl, rfl, rfl, rfl, rfl, rfl, rfl, rfl, rfl, rfl,
      variantOk_of_mapperFor hm, rfl, ?_, ?_⟩
    · rintro r rfl
      exact eq_powerOn_of_mapperFor_mmc1 hm
    · rintro r rfl
      exact eq_powerOn_of_mapperFor_mmc3 hm

end Sys2Proof.Claims


/-! # Everything an instruction can do, said once

A meaning observes A, X, Y, SP, PC, single flags and bytes of the Bus, and it changes a state only by the single-field
writers of Machine/Registers.lean and by Bus writes: those the spec's writer tables list for it (R21, R23, R26). So a
relation between two states that agrees on the observations and is kept by the listed writers is kept by the
instruction (`Respects.exec`), and a property that the listed writers keep holds of its next state (`Keeps.exec`). -/

namespace Sys2Proof.Machine

open Sys2Proof.Claims (Done)

/-- Related states look the same to instruction `i`, and every writer the tables list for `i` keeps them related. Only
PHP and BRK look at the whole of P, and only PLP and RTI load it. -/
structure Respects (i : Instr) (R : State → State → Prop) : Prop where
  a : ∀ {s s'}, R s s' → s'.a = s.a
  x : ∀ {s s'}, R s s' → s'.x = s.x
  y : ∀ {s s'}, R s s' → s'.y = s.y
  sp : ∀ {s s'}, R s s' → s'.sp = s.sp
  pc : ∀ {s s'}, R s s' → s'.pc = s.pc
  flag : ∀ {f}, f ≠ .decimal → ∀ {s s'}, R s s' → s'.flag f = s.flag f
  p : i.mnemonic ∈ [.php, .brk] → ∀ {s s'}, R s s' → s'.p = s.p
  read : ∀ {s s'}, R s s' → ∀ ea, s'.read ea = s.read ea
  setPc : ∀ v {s s'}, R s s' → R (s.setPc v) (s'.setPc v)
  setA : writesA i = true → ∀ v {s s'}, R s s' → R (s.setA v) (s'.setA v)
  setX : writesX i = true → ∀ v {s s'}, R s s' → R (s.setX v) (s'.setX v)
  setY : writesY i = true → ∀ v {s s'}, R s s' → R (s.setY v) (s'.setY v)
  setSp : writesSp i = true → ∀ v {s s'}, R s s' → R (s.setSp v) (s'.setSp v)
  setFlag : ∀ {f}, writesFlag i f = true → ∀ b {s s'}, R s s' → R (s.setFlag f b) (s'.setFlag f b)
  pullP : i.mnemonic ∈ [.plp, .rti] → ∀ v {s s'}, R s s' → R (s.setP (pulledStatus v)) (s'.setP (pulledStatus v))
  write : ∀ ea v {s s'}, R s s' → R (s.write ea v) (s'.write ea v)

/-- Every writer the tables list for instruction `i` keeps the property. -/
structure Keeps (i : Instr) (I : State → Prop) : Prop where
  setPc : ∀ v {s}, I s → I (s.setPc v)
  setA : writesA i = true → ∀ v {s}, I s → I (s.setA v)
  setX : writesX i = true → ∀ v {s}, I s → I (s.setX v)
  setY : writesY i = true → ∀ v {s}, I s → I (s.setY v)
  setSp : writesSp i = true → ∀ v {s}, I s → I (s.setSp v)
  setFlag : ∀ {f}, writesFlag i f = true → ∀ b {s}, I s → I (s.setFlag f b)
  pullP : i.mnemonic ∈ [.plp, .rti] → ∀ v {s}, I s → I (s.setP (pulledStatus v))
  write : ∀ ea v {s}, I s → I (s.write ea v)

/-- From related states both answers are next states, and they are related. -/
def Lockstep (R : State → State → Prop) (m : State → Answer) : Prop :=
  ∀ {s s'}, R s s' → ∃ t t', m s = .next t ∧ m s' = .next t' ∧ R t t'

/-! ### The handlers, by mnemonic -/

/-- The handler of an Implied mnemonic (R157). -/
inductive ImpliedHandler : Mnemonic → (State → State) → Prop
  | inx : ImpliedHandler .inx State.inx
  | iny : ImpliedHandler .iny State.iny
  | dex : ImpliedHandler .dex State.dex
  | dey : ImpliedHandler .dey State.dey
  | pha : ImpliedHandler .pha State.pha
  | php : ImpliedHandler .php State.php
  | pla : ImpliedHandler .pla State.pla
  | plp : ImpliedHandler .plp State.plp
  | tsx : ImpliedHandler .tsx State.tsx
  | txs : ImpliedHandler .txs State.txs
  | rts : ImpliedHandler .rts State.rts
  | rti : ImpliedHandler .rti State.returnFromTrap
  | tax : ImpliedHandler .tax State.tax
  | tay : ImpliedHandler .tay State.tay
  | txa : ImpliedHandler .txa State.txa
  | tya : ImpliedHandler .tya State.tya
  | clc : ImpliedHandler .clc (fun t => t.setFlag .carry false)
  | cld : ImpliedHandler .cld (fun t => t.setFlag .decimal false)
  | cli : ImpliedHandler .cli (fun t => t.setFlag .interruptDisable false)
  | clv : ImpliedHandler .clv (fun t => t.setFlag .overflow false)
  | sec : ImpliedHandler .sec (fun t => t.setFlag .carry true)
  | sed : ImpliedHandler .sed (fun t => t.setFlag .decimal true)
  | sei : ImpliedHandler .sei (fun t => t.setFlag .interruptDisable true)
  | nop : ImpliedHandler .nop (fun t => t)

/-- The handler of a mnemonic that takes an operand byte, Immediate or loaded (R146, R158). -/
inductive ByteHandler : Mnemonic → (State → Byte → State) → Prop
  | adc : ByteHandler .adc State.adc
  | sbc : ByteHandler .sbc State.sbc
  | cmp : ByteHandler .cmp State.cmp
  | cpx : ByteHandler .cpx State.cpx
  | cpy : ByteHandler .cpy State.cpy
  | lda : ByteHandler .lda State.lda
  | ldx : ByteHandler .ldx State.ldx
  | ldy : ByteHandler .ldy State.ldy
  | and : ByteHandler .and State.andA
  | ora : ByteHandler .ora State.oraA
  | eor : ByteHandler .eor State.eorA
  | bit : ByteHandler .bit State.bitTest
  | brk : ByteHandler .brk (fun t _ => t.takeTrap)

/-- The handler of a mnemonic that takes an effective address: stores, INC, DEC, jumps (R158, R240, R241). -/
inductive AddressHandler : Mnemonic → (State → Word → State) → Prop
  | inc : AddressHandler .inc State.incAt
  | dec : AddressHandler .dec State.decAt
  | sta : AddressHandler .sta State.sta
  | stx : AddressHandler .stx State.stx
  | sty : AddressHandler .sty State.sty
  | jmp : AddressHandler .jmp State.setPc
  | jsr : AddressHandler .jsr State.jsr

theorem writesX_of_mnemonic {i : Instr} {k : Mnemonic} (hk : i.mnemonic = k)
    (h : [Mnemonic.ldx, .tax, .tsx, .inx, .dex].contains k = true) : writesX i = true := by
  subst hk; exact h

theorem writesY_of_mnemonic {i : Instr} {k : Mnemonic} (hk : i.mnemonic = k)
    (h : [Mnemonic.ldy, .tay, .iny, .dey].contains k = true) : writesY i = true := by
  subst hk; exact h

theorem writesSp_of_mnemonic {i : Instr} {k : Mnemonic} (hk : i.mnemonic = k)
    (h : [Mnemonic.txs, .pha, .php, .pla, .plp, .jsr, .rts, .brk, .rti].contains k = true) : writesSp i = true := by
  subst hk; exact h

theorem writesA_of_mnemonic {i : Instr} {k : Mnemonic} (hk : i.mnemonic = k)
    (h : [Mnemonic.lda, .pla, .txa, .tya, .adc, .sbc, .and, .ora, .eor].contains k = true) : writesA i = true := by
  subst hk; exact Bool.or_eq_true_iff.mpr (.inl h)

theorem writesFlag_of_mnemonic {i : Instr} {k : Mnemonic} {f : Flag} (hk : i.mnemonic = k)
    (h : (flagWriters f).contains k = true) : writesFlag i f = true := by
  subst hk; exact h

section
variable {i : Instr} {R : State → State → Prop} {k : Mnemonic} {s s' : State}

namespace Respects
variable (H : Respects i R)
include H

/-! ### The shared operations -/

theorem advance (n : Word) (h : R s s') : R (s.advance n) (s'.advance n) := by
  unfold State.advance
  rw [H.pc h]
  exact H.setPc _ h

/-- The Zero/Negative update, for an instruction the table of R26 lists as a writer of Z and N. -/
theorem setZN (hz : writesFlag i .zero = true) (hn : writesFlag i .negative = true) (v : Byte) (h : R s s') :
    R (s.setZN v) (s'.setZN v) :=
  H.setFlag hn _ (H.setFlag hz _ h)

theorem setZN_of_mnemonic (hk : i.mnemonic = k) (hr : (flagWriters .zero).contains k = true) (v : Byte)
    (h : R s s') : R (s.setZN v) (s'.setZN v) :=
  H.setZN (writesFlag_of_mnemonic hk hr) (writesFlag_of_mnemonic hk hr) v h

theorem compare (hk : i.mnemonic = k) (hc : (flagWriters .carry).contains k = true)
    (hr : (flagWriters .zero).contains k = true) (r m : Byte) (h : R s s') :
    R (s.compare r m) (s'.compare r m) :=
  H.setZN_of_mnemonic hk hr _ (H.setFlag (writesFlag_of_mnemonic hk hc) _ h)

theorem push (hsp : writesSp i = true) (v : Byte) (h : R s s') : R (s.push v) (s'.push v) := by
  unfold State.push
  rw [H.sp h]
  exact H.setSp hsp _ (H.write _ _ h)

theorem push16 (hsp : writesSp i = true) (w : Word) (h : R s s') : R (s.push16 w) (s'.push16 w) :=
  H.push hsp _ (H.push hsp _ h)

theorem popValue (h : R s s') : s'.popValue = s.popValue := by
  unfold State.popValue
  rw [H.sp h, H.read h]

theorem popped (hsp : writesSp i = true) (h : R s s') : R s.popped s'.popped := by
  unfold State.popped
  rw [H.sp h]
  exact H.setSp hsp _ h

theorem popped16 (hsp : writesSp i = true) (h : R s s') : R s.popped16 s'.popped16 :=
  H.popped hsp (H.popped hsp h)

theorem pop16Value (hsp : writesSp i = true) (h : R s s') : s'.pop16Value = s.pop16Value := by
  unfold State.pop16Value
  rw [H.popValue h, H.popValue (H.popped hsp h)]

theorem read16 (h : R s s') (ea : Word) : s'.read16 ea = s.read16 ea := by
  unfold State.read16
  rw [H.read h, H.read h]

theorem takeTrap (hk : i.mnemonic = .brk) (h : R s s') : R s.takeTrap s'.takeTrap := by
  have hsp : writesSp i = true := writesSp_of_mnemonic hk rfl
  unfold State.takeTrap
  rw [H.pc h, H.p (by simp [hk]) h]
  have masked := H.setFlag (writesFlag_of_mnemonic (f := .interruptDisable) hk rfl) true
    (H.push hsp (pushedStatus s.p) (H.push16 hsp s.pc h))
  dsimp only
  rw [H.read16 masked]
  exact H.setPc _ masked

theorem returnFromTrap (hk : i.mnemonic = .rti) (h : R s s') : R s.returnFromTrap s'.returnFromTrap := by
  have hsp : writesSp i = true := writesSp_of_mnemonic hk rfl
  unfold State.returnFromTrap
  rw [H.popValue h]
  have restored := H.pullP (by simp [hk]) s.popValue (H.popped hsp h)
  dsimp only
  rw [H.pop16Value hsp restored]
  exact H.setPc _ (H.popped16 hsp restored)

/-- A shift or rotate in memory: the flags it writes are the three of the table of R26. -/
theorem shiftAt_mem (hc : writesFlag i .carry = true) (hz : writesFlag i .zero = true)
    (hn : writesFlag i .negative = true) (f : Byte → Bool → Shifted) (ea : Word) (h : R s s') :
    R (s.shiftAt f (.mem ea)) (s'.shiftAt f (.mem ea)) := by
  unfold State.shiftAt State.load
  rw [H.flag (by decide) h]
  dsimp only
  rw [H.read h]
  exact H.setZN hz hn _ (H.write _ _ (H.setFlag hc _ h))

theorem shiftAt_accumulator (ha : writesA i = true) (hc : writesFlag i .carry = true) (hz : writesFlag i .zero = true)
    (hn : writesFlag i .negative = true) (f : Byte → Bool → Shifted) (h : R s s') :
    R (s.shiftAt f .accumulator) (s'.shiftAt f .accumulator) := by
  unfold State.shiftAt State.load
  rw [H.flag (by decide) h]
  dsimp only
  rw [H.a h]
  exact H.setZN hz hn _ (H.setA ha _ (H.setFlag hc _ h))

/-! ### The handlers -/

theorem impliedHandler {h : State → State} (hh : ImpliedHandler i.mnemonic h) (hR : R s s') : R (h s) (h s') := by
  generalize hk : i.mnemonic = k at hh
  cases hh with
  | inx | dex =>
    simp only [State.inx, State.dex, H.x hR]
    exact H.setZN_of_mnemonic hk rfl _ (H.setX (writesX_of_mnemonic hk rfl) _ hR)
  | iny | dey =>
    simp only [State.iny, State.dey, H.y hR]
    exact H.setZN_of_mnemonic hk rfl _ (H.setY (writesY_of_mnemonic hk rfl) _ hR)
  | pha =>
    simp only [State.pha, H.a hR]
    exact H.push (writesSp_of_mnemonic hk rfl) _ hR
  | php =>
    simp only [State.php, H.p (by simp [hk]) hR]
    exact H.push (writesSp_of_mnemonic hk rfl) _ hR
  | pla =>
    simp only [State.pla, H.popValue hR]
    exact H.setZN_of_mnemonic hk rfl _
      (H.setA (writesA_of_mnemonic hk rfl) _ (H.popped (writesSp_of_mnemonic hk rfl) hR))
  | plp =>
    simp only [State.plp, H.popValue hR]
    exact H.pullP (by simp [hk]) _ (H.popped (writesSp_of_mnemonic hk rfl) hR)
  | tsx =>
    simp only [State.tsx, H.sp hR]
    exact H.setZN_of_mnemonic hk rfl _ (H.setX (writesX_of_mnemonic hk rfl) _ hR)
  | txs =>
    simp only [State.txs, H.x hR]
    exact H.setSp (writesSp_of_mnemonic hk rfl) _ hR
  | rts =>
    have hsp : writesSp i = true := writesSp_of_mnemonic hk rfl
    simp only [State.rts, H.pop16Value hsp hR]
    exact H.setPc _ (H.popped16 hsp hR)
  | rti => exact H.returnFromTrap hk hR
  | tax =>
    simp only [State.tax, H.a hR]
    exact H.setZN_of_mnemonic hk rfl _ (H.setX (writesX_of_mnemonic hk rfl) _ hR)
  | tay =>
    simp only [State.tay, H.a hR]
    exact H.setZN_of_mnemonic hk rfl _ (H.setY (writesY_of_mnemonic hk rfl) _ hR)
  | txa =>
    simp only [State.txa, H.x hR]
    exact H.setZN_of_mnemonic hk rfl _ (H.setA (writesA_of_mnemonic hk rfl) _ hR)
  | tya =>
    simp only [State.tya, H.y hR]
    exact H.setZN_of_mnemonic hk rfl _ (H.setA (writesA_of_mnemonic hk rfl) _ hR)
  | clc | cld | cli | clv | sec | sed | sei => exact H.setFlag (writesFlag_of_mnemonic hk rfl) _ hR
  | nop => exact hR

theorem byteHandler {h : State → Byte → State} (hh : ByteHandler i.mnemonic h) (m : Byte) (hR : R s s') :
    R (h s m) (h s' m) := by
  generalize hk : i.mnemonic = k at hh
  cases hh with
  | adc | sbc =>
    simp only [State.adc, State.sbc, H.a hR, H.flag (f := .carry) (by decide) hR]
    exact H.setA (writesA_of_mnemonic hk rfl) _ (H.setZN_of_mnemonic hk rfl _
      (H.setFlag (writesFlag_of_mnemonic hk rfl) _ (H.setFlag (writesFlag_of_mnemonic hk rfl) _ hR)))
  | cmp | cpx | cpy =>
    simp only [State.cmp, State.cpx, State.cpy, H.a hR, H.x hR, H.y hR]
    exact H.compare hk rfl rfl _ _ hR
  | lda => exact H.setZN_of_mnemonic hk rfl _ (H.setA (writesA_of_mnemonic hk rfl) _ hR)
  | ldx => exact H.setZN_of_mnemonic hk rfl _ (H.setX (writesX_of_mnemonic hk rfl) _ hR)
  | ldy => exact H.setZN_of_mnemonic hk rfl _ (H.setY (writesY_of_mnemonic hk rfl) _ hR)
  | and | ora | eor =>
    simp only [State.andA, State.oraA, State.eorA, H.a hR]
    exact H.setZN_of_mnemonic hk rfl _ (H.setA (writesA_of_mnemonic hk rfl) _ hR)
  | bit =>
    simp only [State.bitTest, H.a hR]
    exact H.setFlag (writesFlag_of_mnemonic hk rfl) _ (H.setFlag (writesFlag_of_mnemonic hk rfl) _
      (H.setFlag (writesFlag_of_mnemonic hk rfl) _ hR))
  | brk => exact H.takeTrap hk hR

theorem addressHandler {h : State → Word → State} (hh : AddressHandler i.mnemonic h) (ea : Word) (hR : R s s') :
    R (h s ea) (h s' ea) := by
  generalize hk : i.mnemonic = k at hh
  cases hh with
  | inc | dec =>
    simp only [State.incAt, State.decAt, H.read hR]
    exact H.setZN_of_mnemonic hk rfl _ (H.write _ _ hR)
  | sta | stx | sty =>
    simp only [State.sta, State.stx, State.sty, H.a hR, H.x hR, H.y hR]
    exact H.write _ _ hR
  | jmp => exact H.setPc _ hR
  | jsr =>
    simp only [State.jsr, H.pc hR]
    exact H.setPc _ (H.push16 (writesSp_of_mnemonic hk rfl) _ hR)

/-! ### The addressing modes -/

theorem eaZpX (b : Byte) (h : R s s') : eaZpX b s' = eaZpX b s := congrArg (fun v => zext16 (b + v)) (H.x h)
theorem eaZpY (b : Byte) (h : R s s') : eaZpY b s' = eaZpY b s := congrArg (fun v => zext16 (b + v)) (H.y h)
theorem eaAbsX (w : Word) (h : R s s') : eaAbsX w s' = eaAbsX w s := congrArg (fun v => w + zext16 v) (H.x h)
theorem eaAbsY (w : Word) (h : R s s') : eaAbsY w s' = eaAbsY w s := congrArg (fun v => w + zext16 v) (H.y h)

theorem eaInd (w : Word) (h : R s s') : eaInd w s' = eaInd w s := by
  simp only [Machine.eaInd, H.read h]

theorem eaIndX (b : Byte) (h : R s s') : eaIndX b s' = eaIndX b s := by
  simp only [Machine.eaIndX, State.zpPointer, H.x h, H.read h]

theorem eaIndY (b : Byte) (h : R s s') : eaIndY b s' = eaIndY b s := by
  simp only [Machine.eaIndY, State.zpPointer, H.y h, H.read h]

/-! ### The shapes of a meaning -/

theorem onImplied {h : State → State} (hh : ImpliedHandler i.mnemonic h) : Lockstep R (onImplied h) :=
  fun hR => ⟨_, _, rfl, rfl, H.impliedHandler hh (H.advance 1 hR)⟩

theorem onImmediate {h : State → Byte → State} (b : Byte) (hh : ByteHandler i.mnemonic h) :
    Lockstep R (onImmediate b h) :=
  fun hR => ⟨_, _, rfl, rfl, H.byteHandler hh b (H.advance 2 hR)⟩

theorem onByteAt {n : Word} {ea : State → Word} {h : State → Byte → State}
    (hea : ∀ {s s'}, R s s' → ea s' = ea s) (hh : ByteHandler i.mnemonic h) : Lockstep R (onByteAt n ea h) := by
  intro s s' hR
  have hR' := H.advance n hR
  refine ⟨_, _, rfl, rfl, ?_⟩
  rw [hea hR', H.read hR']
  exact H.byteHandler hh _ hR'

theorem onAddress {n : Word} {ea : State → Word} {h : State → Word → State}
    (hea : ∀ {s s'}, R s s' → ea s' = ea s) (hh : ∀ {s s'} ea, R s s' → R (h s ea) (h s' ea)) :
    Lockstep R (onAddress n ea h) := by
  intro s s' hR
  have hR' := H.advance n hR
  refine ⟨_, _, rfl, rfl, ?_⟩
  rw [hea hR']
  exact hh _ hR'

theorem onBranch {cond : State → Bool} (off : Byte) (hc : ∀ {s s'}, R s s' → cond s' = cond s) :
    Lockstep R (onBranch off cond) := by
  intro s s' hR
  have hR' := H.advance 2 hR
  refine ⟨_, _, rfl, rfl, ?_⟩
  rw [hc hR', H.pc hR']
  split
  · exact H.setPc _ hR'
  · exact hR'

/-- The instruction set, addressing mode by addressing mode: related states stay related. -/
theorem exec : Lockstep R (Machine.exec i) := by
  cases i with
  | inx | iny | dex | dey | pha | php | pla | plp | tsx | txs | rts | rti | tax | tay | txa | tya | clc | cld | cli | clv
    | sec | sed | sei | nop => exact H.onImplied (by constructor)
  | aslAcc | lsrAcc | rolAcc | rorAcc =>
    exact fun hR => ⟨_, _, rfl, rfl, H.shiftAt_accumulator rfl rfl rfl rfl _ (H.advance 1 hR)⟩
  | adcImm b | sbcImm b | cmpImm b | cpxImm b | cpyImm b | ldaImm b | ldxImm b | ldyImm b | andImm b | oraImm b
    | eorImm b | brk b => exact H.onImmediate b (by constructor)
  | adcZp b | sbcZp b | cmpZp b | cpxZp b | cpyZp b | ldaZp b | ldxZp b | ldyZp b | andZp b | oraZp b | eorZp b
    | bitZp b => exact H.onByteAt (fun _ => rfl) (by constructor)
  | adcZpX b | sbcZpX b | cmpZpX b | ldaZpX b | ldyZpX b | andZpX b | oraZpX b | eorZpX b =>
    exact H.onByteAt (H.eaZpX b) (by constructor)
  | ldxZpY b => exact H.onByteAt (H.eaZpY b) (by constructor)
  | adcAbs w | sbcAbs w | cmpAbs w | cpxAbs w | cpyAbs w | ldaAbs w | ldxAbs w | ldyAbs w | andAbs w | oraAbs w
    | eorAbs w | bitAbs w => exact H.onByteAt (fun _ => rfl) (by constructor)
  | adcAbsX w | sbcAbsX w | cmpAbsX w | ldaAbsX w | ldyAbsX w | andAbsX w | oraAbsX w | eorAbsX w =>
    exact H.onByteAt (H.eaAbsX w) (by constructor)
  | adcAbsY w | sbcAbsY w | cmpAbsY w | ldaAbsY w | ldxAbsY w | andAbsY w | oraAbsY w | eorAbsY w =>
    exact H.onByteAt (H.eaAbsY w) (by constructor)
  | adcIndX b | sbcIndX b | cmpIndX b | ldaIndX b | andIndX b | oraIndX b | eorIndX b =>
    exact H.onByteAt (H.eaIndX b) (by constructor)
  | adcIndY b | sbcIndY b | cmpIndY b | ldaIndY b | andIndY b | oraIndY b | eorIndY b =>
    exact H.onByteAt (H.eaIndY b) (by constructor)
  | incZp b | decZp b | staZp b | stxZp b | styZp b =>
    exact H.onAddress (fun _ => rfl) (H.addressHandler (by constructor))
  | incZpX b | decZpX b | staZpX b | styZpX b => exact H.onAddress (H.eaZpX b) (H.addressHandler (by constructor))
  | stxZpY b => exact H.onAddress (H.eaZpY b) (H.addressHandler (by constructor))
  | incAbs w | decAbs w | staAbs w | stxAbs w | styAbs w | jmpAbs w | jsr w =>
    exact H.onAddress (fun _ => rfl) (H.addressHandler (by constructor))
  | incAbsX w | decAbsX w | staAbsX w => exact H.onAddress (H.eaAbsX w) (H.addressHandler (by constructor))
  | staAbsY w => exact H.onAddress (H.eaAbsY w) (H.addressHandler (by constructor))
  | staIndX b => exact H.onAddress (H.eaIndX b) (H.addressHandler (by constructor))
  | staIndY b => exact H.onAddress (H.eaIndY b) (H.addressHandler (by constructor))
  | jmpInd w => exact H.onAddress (H.eaInd w) (H.addressHandler (by constructor))
  | aslZp b | lsrZp b | rolZp b | rorZp b => exact H.onAddress (fun _ => rfl) (H.shiftAt_mem rfl rfl rfl _)
  | aslZpX b | lsrZpX b | rolZpX b | rorZpX b => exact H.onAddress (H.eaZpX b) (H.shiftAt_mem rfl rfl rfl _)
  | aslAbs w | lsrAbs w | rolAbs w | rorAbs w => exact H.onAddress (fun _ => rfl) (H.shiftAt_mem rfl rfl rfl _)
  | aslAbsX w | lsrAbsX w | rolAbsX w | rorAbsX w => exact H.onAddress (H.eaAbsX w) (H.shiftAt_mem rfl rfl rfl _)
  | bcs off | beq off | bmi off | bvs off => exact H.onBranch off (H.flag (by decide))
  | bcc off | bne off | bpl off | bvc off => exact H.onBranch off (fun hR => congrArg not (H.flag (by decide) hR))

end Respects

/-- A property is a relation of a state with itself. -/
theorem Keeps.respects {I : State → Prop} (K : Keeps i I) : Respects i (fun s s' => s' = s ∧ I s) where
  a := fun ⟨e, _⟩ => congrArg _ e
  x := fun ⟨e, _⟩ => congrArg _ e
  y := fun ⟨e, _⟩ => congrArg _ e
  sp := fun ⟨e, _⟩ => congrArg _ e
  pc := fun ⟨e, _⟩ => congrArg _ e
  flag _ := fun ⟨e, _⟩ => by rw [e]
  p _ := fun ⟨e, _⟩ => congrArg _ e
  read := fun ⟨e, _⟩ _ => by rw [e]
  setPc v := fun ⟨e, h⟩ => ⟨by rw [e], K.setPc v h⟩
  setA hw v := fun ⟨e, h⟩ => ⟨by rw [e], K.setA hw v h⟩
  setX hw v := fun ⟨e, h⟩ => ⟨by rw [e], K.setX hw v h⟩
  setY hw v := fun ⟨e, h⟩ => ⟨by rw [e], K.setY hw v h⟩
  setSp hw v := fun ⟨e, h⟩ => ⟨by rw [e], K.setSp hw v h⟩
  setFlag hw b := fun ⟨e, h⟩ => ⟨by rw [e], K.setFlag hw b h⟩
  pullP hk v := fun ⟨e, h⟩ => ⟨by rw [e], K.pullP hk v h⟩
  write ea v := fun ⟨e, h⟩ => ⟨by rw [e], K.write ea v h⟩

/-- The instruction completes in a state with the property. -/
theorem Keeps.exec {I : State → Prop} (K : Keeps i I) (h : I s) : Done (Machine.exec i s) I := by
  obtain ⟨t, _, ht, _, _, hI⟩ := K.respects.exec ⟨rfl, h⟩
  exact ⟨t, ht, hI⟩

end

end Sys2Proof.Machine

/-! # What an instruction leaves alone: the writer tables, and the invariant (R21, R23, R25, R26) -/

namespace Sys2Proof.Machine

section
variable {i : Instr} {s t : State}

/-! ### The registers -/

/-- The writers of an instruction leave the registers the tables of R21 and R23 do not list it for. -/
theorem keeps_registers (i : Instr) (s : State) : Keeps i fun t =>
    (writesA i = false → t.a = s.a) ∧ (writesX i = false → t.x = s.x) ∧ (writesY i = false → t.y = s.y) ∧
      (writesSp i = false → t.sp = s.sp) where
  setPc _ _ h := h
  setA hw _ _ := fun ⟨_, hx, hy, hsp⟩ => ⟨fun hn => (nomatch hw.symm.trans hn), hx, hy, hsp⟩
  setX hw _ _ := fun ⟨ha, _, hy, hsp⟩ => ⟨ha, fun hn => (nomatch hw.symm.trans hn), hy, hsp⟩
  setY hw _ _ := fun ⟨ha, hx, _, hsp⟩ => ⟨ha, hx, fun hn => (nomatch hw.symm.trans hn), hsp⟩
  setSp hw _ _ := fun ⟨ha, hx, hy, _⟩ => ⟨ha, hx, hy, fun hn => nomatch hw.symm.trans hn⟩
  setFlag _ _ _ h := h
  pullP _ _ _ h := h
  write ea v t h := by simpa only [State.write_a, State.write_x, State.write_y, State.write_sp] using h

/-! ### The flags -/

/-- No instruction is listed as a writer of B or U (R26). -/
theorem ne_break_unused_of_writesFlag {f : Flag} (hw : writesFlag i f = true) : f ≠ .breakCommand ∧ f ≠ .unused := by
  constructor <;> (rintro rfl; cases hw)

/-- PLP and RTI are listed as writers of every flag but B and U (R26). -/
theorem writesFlag_of_pull {f : Flag} (hk : i.mnemonic ∈ [.plp, .rti]) (hb : f ≠ .breakCommand) (hu : f ≠ .unused) :
    writesFlag i f = true := by
  have hf : ∀ k ∈ [Mnemonic.plp, .rti], (flagWriters f).contains k = true := by
    cases f with
    | breakCommand => exact absurd rfl hb
    | unused => exact absurd rfl hu
    | carry | zero | interruptDisable | decimal | overflow | negative => decide
  exact hf _ hk

/-- Legal status bits, as flags (R25). -/
theorem statusOk_iff : statusOk s.p = true ↔ s.flag .unused = true ∧ s.flag .breakCommand = false := by
  simp [statusOk, State.flag, flagBit]

/-- What PLP and RTI load has U set and B clear (R223, R244). -/
theorem statusOk_pulledStatus (v : Byte) : statusOk (pulledStatus v) = true := by
  rw [statusOk, getLsbD_pulledStatus v 5 (by decide), getLsbD_pulledStatus v 4 (by decide)]
  rfl

/-- A listed flag write keeps the status bits legal. -/
theorem statusOk_setFlag {f : Flag} (hw : writesFlag i f = true) (b : Bool) (h : statusOk s.p = true) :
    statusOk (s.setFlag f b).p = true := by
  obtain ⟨hb, hu⟩ := ne_break_unused_of_writesFlag hw
  rw [statusOk_iff] at h ⊢
  simpa [hb.symm, hu.symm] using h

/-- The writers of an instruction leave the flags the table of R26 does not list it for; of B and U, which PLP and RTI
load, the loaded values are the legal ones. -/
theorem keeps_flag (i : Instr) (f : Flag) (hs : statusOk s.p = true) : Keeps i fun t =>
    writesFlag i f = false → t.flag f = s.flag f where
  setPc _ _ h := h
  setA _ _ _ h := h
  setX _ _ _ h := h
  setY _ _ _ h := h
  setSp _ _ _ h := h
  setFlag {g} hw b t h hn := by
    have hfg : f ≠ g := by rintro rfl; exact nomatch hw.symm.trans hn
    rw [State.flag_setFlag, if_neg hfg, h hn]
  pullP hk v t _ hn := by
    have hpulled := statusOk_iff.mp (show statusOk (t.setP (pulledStatus v)).p = true from statusOk_pulledStatus v)
    have hlegal := statusOk_iff.mp hs
    by_cases hb : f = .breakCommand
    · rw [hb, hpulled.2, hlegal.2]
    · by_cases hu : f = .unused
      · rw [hu, hpulled.1, hlegal.1]
      · exact nomatch (writesFlag_of_pull hk hb hu).symm.trans hn
  write ea v t h hn := by rw [State.flag_write, h hn]

/-! ### The invariant -/

/-- A write to the mapper's registers keeps the variant (R72). -/
theorem variantOk_writeMapper (c : Cartridge) (s : State) (a : Word) (v : Byte) :
    variantOk c (s.writeMapper a v).mapper = variantOk c s.mapper := by
  unfold State.writeMapper
  cases h : s.mapper <;> simp [h, variantOk]

theorem mmc1MirroringMode_ne_fourScreen (r : BitVec 5) : mmc1MirroringMode r ≠ .fourScreen := by
  unfold mmc1MirroringMode
  split <;> decide

/-- No mapper register selects four-screen mirroring (R97, R116, D31). -/
theorem mirroring_writeMapper_ne_fourScreen (h : s.mirroring ≠ .fourScreen) (a : Word) (v : Byte) :
    (s.writeMapper a v).mirroring ≠ .fourScreen := by
  unfold State.writeMapper
  split
  · exact h
  · simp only [State.setMirroring_mirroring, mmc1Mirroring]
    split
    · exact mmc1MirroringMode_ne_fourScreen _
    · exact h
  · simp only [State.setMirroring_mirroring, mmc3Mirroring]
    split
    · split <;> decide
    · exact h

/-- A Bus write outside 0x8000–0xFFFF leaves the mapper and its mirroring mode. -/
theorem State.write_mapper_mirroring {a : Word} (h : window a ≠ .prg) (v : Byte) :
    (s.write a v).mapper = s.mapper ∧ (s.write a v).mirroring = s.mirroring := by
  cases hw : window a with
  | ram => rw [State.write_ram_window hw]; exact ⟨rfl, rfl⟩
  | video => rw [State.write_video_window hw]; exact ⟨rfl, rfl⟩
  | audio => rw [State.write_audio_window hw, State.notify_eq]; exact ⟨rfl, rfl⟩
  | expansion => rw [State.write_expansion_window hw]; exact ⟨rfl, rfl⟩
  | prgRam => rw [State.write_prgRam_window hw]; split <;> exact ⟨rfl, rfl⟩
  | prg => exact absurd hw h

/-- A Bus write keeps the invariant. -/
theorem State.Inv.write (h : s.Inv) (a : Word) (v : Byte) : (s.write a v).Inv := by
  obtain ⟨hp, hmem, hc, hv, hm⟩ := h
  refine ⟨by rwa [State.write_p], Memory.wf_write hmem a v, by rwa [State.write_cart], ?_⟩
  rw [State.write_cart]
  by_cases hw : window a = .prg
  · rw [State.write_prg_window hw, variantOk_writeMapper]
    exact ⟨hv, mirroring_writeMapper_ne_fourScreen hm a v⟩
  · obtain ⟨e1, e2⟩ := State.write_mapper_mirroring (s := s) hw v
    rw [e1, e2]
    exact ⟨hv, hm⟩

/-- The writers of an instruction keep the invariant and the cartridge. -/
theorem keeps_inv (i : Instr) (c : Cartridge) : Keeps i fun t => t.Inv ∧ t.cart = c where
  setPc _ _ h := h
  setA _ _ _ h := h
  setX _ _ _ h := h
  setY _ _ _ h := h
  setSp _ _ _ h := h
  setFlag hw b _ := fun ⟨⟨hp, hrest⟩, hc⟩ => ⟨⟨statusOk_setFlag hw b hp, hrest⟩, hc⟩
  pullP _ v _ := fun ⟨⟨_, hrest⟩, hc⟩ => ⟨⟨statusOk_pulledStatus v, hrest⟩, hc⟩
  write ea v _ := fun ⟨hinv, hc⟩ => ⟨hinv.write ea v, by rw [State.write_cart, hc]⟩

/-- A step keeps the invariant and the cartridge. -/
theorem State.Inv.step (h : s.Inv) (ht : step s = .next t) : t.Inv ∧ t.cart = s.cart := by
  obtain ⟨i, u, _, _, hu, rfl⟩ := step_next ht
  have start : s.nextDraw.Inv ∧ s.nextDraw.cart = s.cart := ⟨h, rfl⟩
  obtain ⟨u', hu', hI⟩ := (keeps_inv i s.cart).exec start
  cases hu.symm.trans hu'
  exact hI

/-! ### The host's operations -/

theorem headerMirroring_ne_fourScreen (c : Cartridge) : headerMirroring c ≠ .fourScreen := by
  unfold headerMirroring
  split <;> decide

theorem variantOk_mapperPowerOn (c : Cartridge) (m : Mapper) : variantOk c (mapperPowerOn m) = variantOk c m := by
  cases m <;> rfl

/-- The reset value of P is legal (R452). -/
theorem statusOk_reset : statusOk 0x24 = true := by decide

/-- The CPU reset keeps the invariant: P becomes 0x24 (R452). -/
theorem State.Inv.cpuReset (h : s.Inv) : s.cpuReset.Inv :=
  have ⟨_, hrest⟩ := h
  ⟨statusOk_reset, hrest⟩

/-- Construction answers a next state only with the factory's mapper and a cartridge that meets the launch premises. -/
theorem construct_next {c : Cartridge} (h : construct c = .next s) :
    ∃ m, mapperFor c.mapperNumber = some m ∧ c.wf = true ∧ s = (unresetState c m).cpuReset := by
  cases hm : mapperFor c.mapperNumber with
  | none => rw [construct_of_mapperFor_none hm] at h; cases h
  | some m =>
    cases hwf : c.wf with
    | false => rw [construct_of_not_wf hm hwf] at h; cases h
    | true => rw [construct_of_wf hm hwf] at h; cases h; exact ⟨m, rfl, rfl, rfl⟩

/-- The block before its CPU is reset has the invariant: its storages list no byte, and the ROM is the cartridge's. -/
theorem inv_unresetState {c : Cartridge} {m : Mapper} (hm : mapperFor c.mapperNumber = some m) (hwf : c.wf = true) :
    (unresetState c m).Inv := by
  have hrom := hwf
  simp only [Cartridge.wf, Bool.and_eq_true] at hrom
  obtain ⟨⟨_, hprg⟩, hchr⟩ := hrom
  exact ⟨statusOk_reset, (Memory.wf_iff _).mpr ⟨rfl, rfl, rfl, rfl, rfl, hprg, hchr⟩, hwf, variantOk_of_mapperFor hm,
    headerMirroring_ne_fourScreen c⟩

/-- Recording a fault keeps the invariant (R401). -/
theorem State.Inv.afterFault (h : s.Inv) (f : Fault) : (s.afterFault f).Inv := by
  unfold State.afterFault
  split
  · exact h
  · exact h

theorem State.Inv.hostStep (h : s.Inv) : (hostStep s).1.Inv := by
  unfold Machine.hostStep
  split
  · exact (h.step ‹_›).1
  · exact h.afterFault _
  · exact h

theorem State.Inv.clock (h : s.Inv) : (clock s).1.Inv := by
  have hstep := h.hostStep
  unfold Machine.clock
  split
  · exact h
  · split
    · split <;> rename_i e <;> rw [e] at hstep <;> exact hstep
    · exact h

theorem State.Inv.onScanline (h : s.Inv) : (onScanline s).1.Inv := by
  obtain ⟨hp, hmem, hc, hv, hm⟩ := h
  unfold Machine.onScanline
  split
  · exact ⟨hp, hmem, hc, hv, hm⟩
  · exact ⟨hp, hmem, hc, hv, hm⟩
  · rename_i r hr
    rw [hr] at hv
    exact ⟨hp, hmem, hc, hv, hm⟩

/-- Mapper reset keeps the invariant: the cartridge's RAM lists no byte (R76, R78). -/
theorem State.Inv.mapperReset (h : s.Inv) : (mapperReset s).Inv := by
  obtain ⟨hp, hmem, hc, hv, _⟩ := h
  obtain ⟨hram, hppu, hapu, _, _, hprg, hchr⟩ := (Memory.wf_iff s).mp hmem
  exact ⟨hp, (Memory.wf_iff _).mpr ⟨hram, hppu, hapu, rfl, rfl, hprg, hchr⟩, hc,
    (variantOk_mapperPowerOn s.cart s.mapper).trans hv, headerMirroring_ne_fourScreen s.cart⟩

theorem State.Inv.hostWrite (h : s.Inv) {address data : Int} (ht : hostWrite s address data = .next t) : t.Inv := by
  unfold Machine.hostWrite at ht
  split at ht
  · cases ht; exact h.write _ _
  · cases ht

/-- A translated CHR address is inside the 8192 bytes of CHR-RAM (R77, R78). -/
theorem chrIndex_lt_of_chrIsRam {c : Cartridge} (h : chrIsRam c = true) (m : Mapper) (a : Nat) :
    chrIndex c m a < 0x2000 := by
  have hsize : chrSize c = 8192 := if_pos (by simpa [chrIsRam] using h)
  cases m with
  | nrom => exact Nat.mod_lt _ (by decide)
  | mmc1 r =>
    have hbanks : chrBanks4 c = 2 := by rw [chrBanks4, hsize]
    simp only [chrIndex, hbanks]
    omega
  | mmc3 r =>
    have hbanks : chrBanks1 c = 8 := by rw [chrBanks1, hsize]
    simp only [chrIndex, hbanks]
    omega

theorem State.Inv.ppuWrite (h : s.Inv) {a : Int} {v : Byte} (ht : ppuWrite s a v = .next t) : t.Inv := by
  unfold Machine.ppuWrite at ht
  split at ht
  · cases ht
    split
    · rename_i hram
      obtain ⟨hp, hmem, hrest⟩ := h
      obtain ⟨hcpu, hppu, hapu, hprgRam, hchrRam, hroms⟩ := (Memory.wf_iff s).mp hmem
      exact ⟨hp, (Memory.wf_iff _).mpr ⟨hcpu, hppu, hapu, hprgRam,
        Mem.wf_put v (chrIndex_lt_of_chrIsRam hram s.mapper a.toNat) hchrRam, hroms⟩, hrest⟩
    · exact h
  · cases ht

/-! ### A recorded fault -/

theorem step_of_fault {f : Fault} (h : s.fault = some f) : step s = .fault f := by
  simp only [step, h]

theorem hostStep_of_fault {f : Fault} (h : s.fault = some f) : hostStep s = (s, .fault f) := by
  simp only [hostStep, step_of_fault h, State.afterFault, h]

theorem clock_of_fault {f : Fault} (h : s.fault = some f) : clock s = (s, .fault f) := by
  simp only [clock, h]

end

end Sys2Proof.Machine

/-! # The decimal flag (R27) and the MMC3 interrupt state (R120, R410) reach no other result -/

namespace Sys2Proof.Machine

open Sys2Proof.Claims (withInterruptOf)

/-! ### The decimal flag -/

theorem withBit_comm {j k : Nat} (hj : j < 8) (hk : k < 8) (hjk : j ≠ k) (v : Byte) (b c : Bool) :
    withBit (withBit v j b) k c = withBit (withBit v k c) j b := by
  apply byte_ext
  intro n _
  simp only [getLsbD_withBit _ _ _ _ hj, getLsbD_withBit _ _ _ _ hk]
  split_ifs with h1 h2
  · exact absurd (h2.symm.trans h1) hjk
  all_goals rfl

theorem State.setFlag_comm {f g : Flag} (h : f ≠ g) (s : State) (b c : Bool) :
    (s.setFlag f b).setFlag g c = (s.setFlag g c).setFlag f b := by
  have hbit : flagBit f ≠ flagBit g := fun e => h (flagBit_inj e)
  simp only [State.setFlag_update, withBit_comm (flagBit_lt f) (flagBit_lt g) hbit]

theorem State.write_setFlag (s : State) (f : Flag) (b : Bool) (ea : Word) (v : Byte) :
    (s.setFlag f b).write ea v = (s.write ea v).setFlag f b := by
  rw [State.setFlag_eq, State.write_setP, State.setFlag_eq, State.write_p]

/-- The instructions that copy or load the whole of P, or write D (R26, R221, R223, R243, R244). -/
def decimalMnemonics : List Mnemonic := [.php, .plp, .brk, .rti, .sed, .cld]

theorem mnemonic_notMem_of_notDecimal {i : Instr} (hi : decimalMnemonics.contains i.mnemonic = false) {l : List Mnemonic}
    (hl : ∀ k ∈ l, decimalMnemonics.contains k = true) : i.mnemonic ∉ l :=
  fun hk => nomatch (hl _ hk).symm.trans hi

/-- Any other instruction cannot tell a state from the same state with D forced. -/
theorem respects_forcedDecimal {i : Instr} (hi : decimalMnemonics.contains i.mnemonic = false) (b : Bool) :
    Respects i (fun s s' => s' = s.setFlag .decimal b) where
  a h := by rw [h]; rfl
  x h := by rw [h]; rfl
  y h := by rw [h]; rfl
  sp h := by rw [h]; rfl
  pc h := by rw [h]; rfl
  flag hf _ _ h := by rw [h, State.flag_setFlag, if_neg hf]
  p hk := absurd hk (mnemonic_notMem_of_notDecimal hi (by decide))
  read h ea := by rw [h, State.read_setFlag]
  setPc _ _ _ h := by rw [h]; rfl
  setA _ _ _ _ h := by rw [h]; rfl
  setX _ _ _ _ h := by rw [h]; rfl
  setY _ _ _ _ h := by rw [h]; rfl
  setSp _ _ _ _ h := by rw [h]; rfl
  setFlag {f} hw c s _ h := by
    have hf : Flag.decimal ≠ f := by
      rintro rfl
      exact mnemonic_notMem_of_notDecimal hi (by decide) (List.contains_iff_mem.mp hw)
    rw [h, State.setFlag_comm hf]
  pullP hk := absurd hk (mnemonic_notMem_of_notDecimal hi (by decide))
  write ea v _ _ h := by rw [h, State.write_setFlag]

/-! ### The MMC3 interrupt state -/

/-- Two MMC3 states that differ in the interrupt state alone: latch, counter, reload request, enable, pending. -/
def SameButInterrupt (s s' : State) : Prop :=
  ∃ (t : State) (r q : Mmc3), s = { t with mapper := .mmc3 r } ∧ s' = { t with mapper := .mmc3 (withInterruptOf r q) }

/-- The interrupt state reaches no other MMC3 register (R110 to R120). -/
theorem mmc3Write_withInterruptOf (a : Word) (v : Byte) (r q : Mmc3) :
    mmc3Write a v (withInterruptOf r q) =
      withInterruptOf (mmc3Write a v r) (mmc3Write a v (withInterruptOf r q)) := by
  unfold mmc3Write
  split <;> rfl

theorem SameButInterrupt.write {s s' : State} (h : SameButInterrupt s s') (ea : Word) (v : Byte) :
    SameButInterrupt (s.write ea v) (s'.write ea v) := by
  obtain ⟨t, r, q, rfl, rfl⟩ := h
  cases hw : window ea with
  | ram =>
    rw [State.write_ram_window hw, State.write_ram_window hw]
    exact ⟨t.setRam (Mem.put (ramIndex ea) v t.ram), r, q, rfl, rfl⟩
  | video =>
    rw [State.write_video_window hw, State.write_video_window hw]
    exact ⟨t.setPpuRegs (Mem.put (videoIndex ea) v t.ppuRegs), r, q, rfl, rfl⟩
  | audio =>
    rw [State.write_audio_window hw, State.write_audio_window hw]
    refine ⟨(t.setApuRegs (Mem.put (ea.toNat - 0x4000) v t.apuRegs)).notify ea v, r, q, ?_, ?_⟩ <;>
    · unfold State.notify
      split_ifs <;> rfl
  | expansion =>
    rw [State.write_expansion_window hw, State.write_expansion_window hw]
    exact ⟨t, r, q, rfl, rfl⟩
  | prgRam =>
    rw [State.write_prgRam_window hw, State.write_prgRam_window hw]
    by_cases hwr : prgRamWritable (.mmc3 r) = true
    · have hwr' : prgRamWritable (.mmc3 (withInterruptOf r q)) = true := hwr
      rw [if_pos hwr, if_pos hwr']
      exact ⟨t.setPrgRam (Mem.put (ea.toNat - 0x6000) v t.prgRam), r, q, rfl, rfl⟩
    · have hwr' : ¬ prgRamWritable (.mmc3 (withInterruptOf r q)) = true := hwr
      rw [if_neg hwr, if_neg hwr']
      exact ⟨t, r, q, rfl, rfl⟩
  | prg =>
    have ha : 0x8000 ≤ ea.toNat := window_prg.mp hw
    rw [State.write_mmc3 rfl ha, State.write_mmc3 rfl ha, mmc3Write_withInterruptOf]
    exact ⟨t.setMirroring (mmc3Mirroring ea v t.mirroring), _, _, rfl, rfl⟩

/-- No instruction can tell two such states apart: a read, bank translation included, does not look at the interrupt
state. -/
theorem respects_sameButInterrupt (i : Instr) : Respects i SameButInterrupt where
  a := by rintro _ _ ⟨t, r, q, rfl, rfl⟩; rfl
  x := by rintro _ _ ⟨t, r, q, rfl, rfl⟩; rfl
  y := by rintro _ _ ⟨t, r, q, rfl, rfl⟩; rfl
  sp := by rintro _ _ ⟨t, r, q, rfl, rfl⟩; rfl
  pc := by rintro _ _ ⟨t, r, q, rfl, rfl⟩; rfl
  flag _ := by rintro _ _ ⟨t, r, q, rfl, rfl⟩; rfl
  p _ := by rintro _ _ ⟨t, r, q, rfl, rfl⟩; rfl
  read := by rintro _ _ ⟨t, r, q, rfl, rfl⟩ ea; rfl
  setPc v := by rintro _ _ ⟨t, r, q, rfl, rfl⟩; exact ⟨t.setPc v, r, q, rfl, rfl⟩
  setA _ v := by rintro _ _ ⟨t, r, q, rfl, rfl⟩; exact ⟨t.setA v, r, q, rfl, rfl⟩
  setX _ v := by rintro _ _ ⟨t, r, q, rfl, rfl⟩; exact ⟨t.setX v, r, q, rfl, rfl⟩
  setY _ v := by rintro _ _ ⟨t, r, q, rfl, rfl⟩; exact ⟨t.setY v, r, q, rfl, rfl⟩
  setSp _ v := by rintro _ _ ⟨t, r, q, rfl, rfl⟩; exact ⟨t.setSp v, r, q, rfl, rfl⟩
  setFlag {f} _ b := by rintro _ _ ⟨t, r, q, rfl, rfl⟩; exact ⟨t.setFlag f b, r, q, rfl, rfl⟩
  pullP _ v := by rintro _ _ ⟨t, r, q, rfl, rfl⟩; exact ⟨t.setP (pulledStatus v), r, q, rfl, rfl⟩
  write ea v := fun h => h.write ea v

theorem SameButInterrupt.nextDraw {s s' : State} (h : SameButInterrupt s s') :
    SameButInterrupt s.nextDraw s'.nextDraw := by
  obtain ⟨t, r, q, rfl, rfl⟩ := h
  exact ⟨t.nextDraw, r, q, rfl, rfl⟩

/-- What a step looks at before the instruction runs: the recorded fault and the fetched bytes. -/
theorem SameButInterrupt.fetch {s s' : State} (h : SameButInterrupt s s') :
    s'.fault = s.fault ∧ s'.fetchInstr = s.fetchInstr ∧ s'.invalidOpcode = s.invalidOpcode := by
  obtain ⟨t, r, q, rfl, rfl⟩ := h
  exact ⟨rfl, rfl, rfl⟩

/-- The two steps answer the same fault, or next states that again differ in the interrupt state alone. -/
theorem SameButInterrupt.step {s s' : State} (h : SameButInterrupt s s') :
    (∃ f, step s = .fault f ∧ step s' = .fault f) ∨
      ∃ t t', step s = .next t ∧ step s' = .next t' ∧ SameButInterrupt t t' := by
  obtain ⟨hfault, hfetch, hbad⟩ := h.fetch
  unfold Machine.step
  rw [hfault, hfetch, hbad]
  cases s.fault with
  | some f => exact .inl ⟨f, rfl, rfl⟩
  | none =>
    cases s.fetchInstr with
    | none => exact .inl ⟨_, rfl, rfl⟩
    | some i =>
      obtain ⟨t, t', ht, ht', hR⟩ := (respects_sameButInterrupt i).exec h.nextDraw
      simp only [ht, ht']
      exact .inr ⟨_, _, rfl, rfl, hR.nextDraw⟩

end Sys2Proof.Machine

namespace Sys2Proof.Claims

open Sys2Proof.Machine

/-- Settles O56: the writers of the fetched instruction keep the invariant and the cartridge. -/
theorem everyStepKeepsTheInvariant : Obligations.EveryStepKeepsTheInvariant := fun _ _ hs ht => hs.step ht

/-- Settles O57: construction resets the CPU of a block that has the invariant, and each operation keeps it. -/
theorem hostOperationsKeepTheInvariant : Obligations.HostOperationsKeepTheInvariant := by
  refine ⟨fun c s hs => ?_, fun s h => ⟨h.cpuReset, h.hostStep, h.clock, h.onScanline, h.mapperReset, fun _ => h,
    fun _ _ _ => h.hostWrite, fun _ _ _ => h.ppuWrite⟩⟩
  obtain ⟨m, hm, hwf, rfl⟩ := construct_next hs
  exact (inv_unresetState hm hwf).cpuReset

/-- Settles O22: the four registers under the writers the tables list. -/
theorem registersChangeOnlyByTheirWriters : Obligations.RegistersChangeOnlyByTheirWriters := fun i s =>
  (keeps_registers i s).exec ⟨fun _ => rfl, fun _ => rfl, fun _ => rfl, fun _ => rfl⟩

/-- Settles O23: one flag under the writers the table lists; the legal status bits make PLP's and RTI's load of B and U
no change. -/
theorem flagsChangeOnlyByTheirWriters : Obligations.FlagsChangeOnlyByTheirWriters := fun i _ f hs =>
  (keeps_flag i f hs).exec fun _ => rfl

/-- Settles O26: the run with D forced stays in lockstep with the run without. -/
theorem decimalFlagNeverMatters : Obligations.DecimalFlagNeverMatters := by
  intro i s b hi
  obtain ⟨t, _, ht, ht', rfl⟩ := (respects_forcedDecimal hi b).exec (s := s) rfl
  exact ⟨t, ht, ht'⟩

/-- Settles O59: the two steps run in lockstep. -/
theorem pendingInterruptNeverReachesTheCpu : Obligations.PendingInterruptNeverReachesTheCpu := by
  intro s r q hs
  have start : SameButInterrupt s { s with mapper := .mmc3 (withInterruptOf r q) } := ⟨s, r, q, by rw [← hs], rfl⟩
  rcases start.step with ⟨f, hf, hf'⟩ | ⟨t, t', ht, ht', u, r', q', rfl, rfl⟩
  · refine ⟨fun g => by rw [hf, hf'], fun t ht => ?_⟩
    rw [hf] at ht
    cases ht
  · refine ⟨fun g => ?_, fun v hv => ?_⟩
    · rw [ht, ht']
      exact ⟨nofun, nofun⟩
    · rw [ht] at hv
      cases hv
      exact ⟨r', q', rfl, ht'⟩

/-- Settles O45: `step` looks at the recorded fault first, and CPU reset does not write it. -/
theorem faultedStateIsQuiescent : Obligations.FaultedStateIsQuiescent := fun s _ hf =>
  ⟨step_of_fault hf, hostStep_of_fault hf, clock_of_fault hf, hf, step_of_fault (s := s.cpuReset) hf⟩

end Sys2Proof.Claims


/-! # The Bus part of a state, and the stores of an instruction

What the CPU's registers do not touch (RAM, the register windows, the mapper and its RAM, the trace) changes only by Bus
writes; an instruction makes one at each address the tables list for it, in that order, and no other
(`exec_stores`; R60, R62, R159, R207, R263, R304). -/

namespace Sys2Proof.Machine

open Sys2Proof.Claims (Done)

/-- The state without its CPU registers: A, X, Y, SP, P and PC are blanked. It reads as the state reads. -/
def State.bus (s : State) : State := { s with a := 0, x := 0, y := 0, sp := 0, p := 0, pc := 0 }

section
variable {k : Mnemonic}

@[simp] theorem State.bus_advance (s : State) (n : Word) : (s.advance n).bus = s.bus := rfl

@[simp] theorem State.bus_write (s : State) (ea : Word) (v : Byte) : (s.write ea v).bus = s.bus.write ea v :=
  (State.write_registers s ea v 0 0 0 0 0 0).symm

/-- `t` is `s` after one Bus write at each address of the list, in order, with some bytes. -/
inductive StoresAt : List Word → State → State → Prop
  | nil {s : State} : StoresAt [] s s
  | cons {ea : Word} {l : List Word} {s t : State} (v : Byte) : StoresAt l (s.write ea v) t → StoresAt (ea :: l) s t

theorem StoresAt.of_eq {s t : State} (h : t = s) : StoresAt [] s t := h ▸ .nil

/-! ### The handlers -/

/-- PHA and PHP are the Implied handlers that store. -/
theorem bus_impliedHandler {h : State → State} (hh : ImpliedHandler k h) (hk : k ∉ [.pha, .php]) (s : State) :
    (h s).bus = s.bus := by
  cases hh with
  | pha | php => simp at hk
  | _ => rfl

/-- BRK is the handler of an operand byte that stores. -/
theorem bus_byteHandler {h : State → Byte → State} (hh : ByteHandler k h) (hk : k ≠ .brk) (s : State) (m : Byte) :
    (h s m).bus = s.bus := by
  cases hh with
  | brk => exact absurd rfl hk
  | _ => rfl

/-- The handlers of an address other than the jumps write once, at that address. -/
theorem bus_addressHandler {h : State → Word → State} (hh : AddressHandler k h) (hk : k ∉ [.jmp, .jsr]) (s : State)
    (ea : Word) : ∃ v, (h s ea).bus = s.bus.write ea v := by
  cases hh with
  | jmp | jsr => simp at hk
  | _ => exact ⟨_, State.bus_write s ea _⟩

theorem bus_shiftAt_mem (f : Byte → Bool → Shifted) (s : State) (ea : Word) :
    ∃ v, (s.shiftAt f (.mem ea)).bus = s.bus.write ea v :=
  ⟨_, by rw [State.shiftAt_mem]; exact State.bus_write s ea _⟩

theorem bus_push (s : State) (v : Byte) : (s.push v).bus = s.bus.write (stackAddr s.sp) v := State.bus_write s _ v

theorem bus_push16 (s : State) (w : Word) :
    (s.push16 w).bus =
      (s.bus.write (stackAddr s.sp) (highByte w)).write (stackAddr (s.sp - 1)) (lowByte w) := by
  unfold State.push16
  rw [bus_push, bus_push]
  rfl

theorem bus_takeTrap (s : State) :
    s.takeTrap.bus =
      ((s.bus.write (stackAddr s.sp) (highByte s.pc)).write (stackAddr (s.sp - 1)) (lowByte s.pc)).write
        (stackAddr (s.sp - 2)) (pushedStatus s.p) := by
  rw [State.takeTrap_update]
  simp only [← State.bus_write]
  rfl

/-! ### The shapes of a meaning -/

/-- From every state the meaning completes, and its stores are those at the listed addresses. -/
def Stores (l : State → List Word) (m : State → Answer) : Prop :=
  ∀ s, Done (m s) fun t => StoresAt (l s) s.bus t.bus

theorem onImplied_stores {h : State → State} (hh : ImpliedHandler k h) (hk : k ∉ [.pha, .php]) :
    Stores (fun _ => []) (onImplied h) :=
  fun s => ⟨_, rfl, .of_eq (bus_impliedHandler hh hk (s.advance 1))⟩

theorem onImplied_setFlag_stores (f : Flag) (b : Bool) : Stores (fun _ => []) (onImplied fun t => t.setFlag f b) :=
  fun _ => ⟨_, rfl, .nil⟩

theorem onImmediate_stores {h : State → Byte → State} (b : Byte) (hh : ByteHandler k h) (hk : k ≠ .brk) :
    Stores (fun _ => []) (onImmediate b h) :=
  fun s => ⟨_, rfl, .of_eq (bus_byteHandler hh hk (s.advance 2) b)⟩

theorem onByteAt_stores {n : Word} {ea : State → Word} {h : State → Byte → State} (hh : ByteHandler k h)
    (hk : k ≠ .brk) : Stores (fun _ => []) (onByteAt n ea h) :=
  fun s => ⟨_, rfl, .of_eq (bus_byteHandler hh hk (s.advance n) _)⟩

theorem onAccumulator_stores (f : Byte → Bool → Shifted) : Stores (fun _ => []) (onAccumulator f) :=
  fun _ => ⟨_, rfl, .nil⟩

theorem onBranch_stores (off : Byte) (cond : State → Bool) : Stores (fun _ => []) (onBranch off cond) :=
  fun s => ⟨_, onBranch_eq off cond s, .nil⟩

theorem jmp_stores {n : Word} (ea : State → Word) : Stores (fun _ => []) (onAddress n ea State.setPc) :=
  fun _ => ⟨_, rfl, .nil⟩

/-- An effective address that PC does not enter is where the one store goes. -/
theorem onAddress_stores {n : Word} {ea : State → Word} {h : State → Word → State}
    (hea : ∀ s, ea (s.advance n) = ea s) (hh : ∀ t a, ∃ v, (h t a).bus = t.bus.write a v) :
    Stores (fun s => [ea s]) (onAddress n ea h) := by
  intro s
  obtain ⟨v, hv⟩ := hh (s.advance n) (ea s)
  have hbus : (h (s.advance n) (ea (s.advance n))).bus = s.bus.write (ea s) v := by rw [hea, hv, State.bus_advance]
  exact ⟨_, rfl, .cons v (.of_eq hbus)⟩

theorem push_stores (v : State → Byte) : Stores (fun s => [stackAddr s.sp]) (onImplied fun s => s.push (v s)) :=
  fun s => ⟨_, rfl, .cons _ (.of_eq (bus_push (s.advance 1) _))⟩

theorem jsr_stores (w : Word) :
    Stores (fun s => [stackAddr s.sp, stackAddr (s.sp - 1)]) (onAddress 3 (eaAbs w) State.jsr) :=
  fun s => ⟨_, rfl, .cons _ (.cons _ (.of_eq (bus_push16 (s.advance 3) _)))⟩

theorem brk_stores (b : Byte) :
    Stores (fun s => [stackAddr s.sp, stackAddr (s.sp - 1), stackAddr (s.sp - 2)])
      (onImmediate b fun t _ => t.takeTrap) :=
  fun s => ⟨_, rfl, .cons _ (.cons _ (.cons _ (.of_eq (bus_takeTrap (s.advance 2)))))⟩

/-! ### The instruction set -/

/-- Every instruction stores at the addresses the table lists for it, once each and in order, and nowhere else. -/
theorem exec_stores (i : Instr) : Stores (storedAddrs i) (exec i) := by
  cases i with
  | inx | iny | dex | dey | pla | plp | tsx | txs | rts | rti | tax | tay | txa | tya =>
    exact onImplied_stores (by constructor) (by decide)
  | clc | cld | cli | clv | sec | sed | sei => exact onImplied_setFlag_stores _ _
  | nop => exact onImplied_stores .nop (by decide)
  | aslAcc | lsrAcc | rolAcc | rorAcc => exact onAccumulator_stores _
  | adcImm b | sbcImm b | cmpImm b | cpxImm b | cpyImm b | ldaImm b | ldxImm b | ldyImm b | andImm b | oraImm b
    | eorImm b => exact onImmediate_stores b (by constructor) (by decide)
  | adcZp o | sbcZp o | cmpZp o | cpxZp o | cpyZp o | ldaZp o | ldxZp o | ldyZp o | andZp o | oraZp o | eorZp o
    | bitZp o | adcZpX o | sbcZpX o | cmpZpX o | ldaZpX o | ldyZpX o | andZpX o | oraZpX o | eorZpX o | ldxZpY o
    | adcIndX o | sbcIndX o | cmpIndX o | ldaIndX o | andIndX o | oraIndX o | eorIndX o
    | adcIndY o | sbcIndY o | cmpIndY o | ldaIndY o | andIndY o | oraIndY o | eorIndY o
    | adcAbs o | sbcAbs o | cmpAbs o | cpxAbs o | cpyAbs o | ldaAbs o | ldxAbs o | ldyAbs o | andAbs o | oraAbs o
    | eorAbs o | bitAbs o | adcAbsX o | sbcAbsX o | cmpAbsX o | ldaAbsX o | ldyAbsX o | andAbsX o | oraAbsX o
    | eorAbsX o | adcAbsY o | sbcAbsY o | cmpAbsY o | ldaAbsY o | ldxAbsY o | andAbsY o | oraAbsY o | eorAbsY o =>
    exact onByteAt_stores (by constructor) (by decide)
  | bcs off | beq off | bmi off | bvs off => exact onBranch_stores off fun t => t.flag _
  | bcc off | bne off | bpl off | bvc off => exact onBranch_stores off fun t => !t.flag _
  | jmpAbs w | jmpInd w => exact jmp_stores _
  | incZp o | decZp o | staZp o | stxZp o | styZp o | incZpX o | decZpX o | staZpX o | styZpX o | stxZpY o
    | staIndX o | staIndY o | incAbs o | decAbs o | staAbs o | stxAbs o | styAbs o | incAbsX o | decAbsX o
    | staAbsX o | staAbsY o =>
    exact onAddress_stores (fun _ => rfl) (bus_addressHandler (by constructor) (by decide))
  | aslZp o | lsrZp o | rolZp o | rorZp o | aslZpX o | lsrZpX o | rolZpX o | rorZpX o
    | aslAbs o | lsrAbs o | rolAbs o | rorAbs o | aslAbsX o | lsrAbsX o | rolAbsX o | rorAbsX o =>
    exact onAddress_stores (fun _ => rfl) (bus_shiftAt_mem _)
  | pha => exact push_stores State.a
  | php => exact push_stores fun s => pushedStatus s.p
  | jsr w => exact jsr_stores w
  | brk b => exact brk_stores b

/-! ### What the stores leave -/

theorem StoresAt.read_eq {l : List Word} {s t : State} {a : Word} (h : StoresAt l s t)
    (ha : ∀ ea ∈ l, storeReaches ea a = false) : t.read a = s.read a := by
  induction h with
  | nil => rfl
  | cons v _ ih =>
    rw [List.forall_mem_cons] at ha
    rw [ih ha.2, State.read_write_other v ha.1]

/-- The notification a write emits (R59). -/
def notification (a : Word) (v : Byte) : List Event :=
  if a = 0x4014 then [.bulkTransfer v]
  else if a = 0x4016 then [.controllerPort .port4016 v]
  else if a = 0x4017 then [.controllerPort .port4017 v]
  else []

theorem State.notify_trace (s : State) (a : Word) (v : Byte) : (s.notify a v).trace = s.trace ++ notification a v := by
  unfold State.notify notification
  split_ifs <;> simp

theorem notification_eq_nil {a : Word} {v : Byte} (h : a ≠ 0x4014 ∧ a ≠ 0x4016 ∧ a ≠ 0x4017) :
    notification a v = [] := by
  obtain ⟨h1, h2, h3⟩ := h
  rw [notification, if_neg h1, if_neg h2, if_neg h3]

/-- The three notifying addresses are audio/IO registers. -/
theorem notification_of_window {a : Word} {v : Byte} (h : window a ≠ .audio) : notification a v = [] := by
  apply notification_eq_nil
  refine ⟨?_, ?_, ?_⟩ <;> (rintro rfl; exact h (by decide))

/-- A Bus write appends its notification to the trace (R56). -/
theorem State.write_trace (s : State) (a : Word) (v : Byte) : (s.write a v).trace = s.trace ++ notification a v := by
  by_cases hw : window a = .audio
  · rw [State.write_audio_window hw, State.notify_trace, State.setApuRegs_trace]
  · rw [notification_of_window hw, List.append_nil]
    cases hc : window a with
    | ram => rw [State.write_ram_window hc, State.setRam_trace]
    | video => rw [State.write_video_window hc, State.setPpuRegs_trace]
    | audio => exact absurd hc hw
    | expansion => rw [State.write_expansion_window hc]
    | prgRam => rw [State.write_prgRam_window hc]; split <;> rfl
    | prg => rw [State.write_prg_window hc, State.writeMapper_eq]

theorem StoresAt.trace_append {l : List Word} {s t : State} (h : StoresAt l s t) : ∃ es, t.trace = s.trace ++ es := by
  induction h with
  | nil => exact ⟨[], (List.append_nil _).symm⟩
  | cons v _ ih =>
    obtain ⟨es, hes⟩ := ih
    exact ⟨_, by rw [hes, State.write_trace, List.append_assoc]⟩

theorem StoresAt.trace_eq {l : List Word} {s t : State} (h : StoresAt l s t)
    (hl : ∀ ea ∈ l, ea ≠ 0x4014 ∧ ea ≠ 0x4016 ∧ ea ≠ 0x4017) : t.trace = s.trace := by
  induction h with
  | nil => rfl
  | cons v _ ih =>
    rw [List.forall_mem_cons] at hl
    rw [ih hl.2, State.write_trace, notification_eq_nil hl.1, List.append_nil]

end

end Sys2Proof.Machine

namespace Sys2Proof.Claims

open Sys2Proof.Machine

/-- Settles O24: the instruction's stores are those of the table, and a store leaves what it does not reach. -/
theorem bytesChangeOnlyWhereStored : Obligations.BytesChangeOnlyWhereStored := by
  intro i s
  obtain ⟨t, ht, hst⟩ := exec_stores i s
  exact ⟨t, ht, fun _ ha => hst.read_eq ha⟩

/-- Settles O25: each store of the table appends its notification, and only three addresses have one. -/
theorem theTraceOnlyGrowsByNotifyingStores : Obligations.TheTraceOnlyGrowsByNotifyingStores := by
  intro i s
  obtain ⟨t, ht, hst⟩ := exec_stores i s
  exact ⟨t, ht, hst.trace_append, hst.trace_eq⟩

end Sys2Proof.Claims

/-! # The register windows, the expansion range, PRG-RAM and the stack (R55, R58 to R63, R73, R76, R104, R107, R121) -/

namespace Sys2Proof.Machine

section
variable {s : State} {a b : Word} {v : Byte}

/-- Reading a video register after writing one (R58). -/
theorem State.read_write_video (ha : window a = .video) (hb : window b = .video) :
    (s.write a v).read b = if videoIndex b = videoIndex a then v else s.read b := by
  rw [State.write_video_window ha, State.read_video_window hb, State.read_video_window hb, State.setPpuRegs_ppuRegs,
    Mem.lookup_put]
  split <;> rfl

/-- A read does not look at the trace. -/
theorem State.read_notify (s : State) (a : Word) (v : Byte) (b : Word) : (s.notify a v).read b = s.read b := by
  rw [State.notify_eq]
  rfl

/-- Any read after a write to an audio/IO register (R59). -/
theorem State.read_write_audio (ha : window a = .audio) : (s.write a v).read b = if b = a then v else s.read b := by
  by_cases h : b = a
  · subst h
    rw [if_pos rfl, State.write_audio_window ha, State.read_notify, State.read_audio_window ha,
      State.setApuRegs_apuRegs, Mem.lookup_put_same, Option.getD_some]
  · have hr : storeReaches a b = false := by simp [storeReaches, ha, h]
    rw [if_neg h, State.read_write_other v hr]

/-- The repetition of the video registers, on addresses (R58). -/
theorem videoIndex_eq_iff (ha : 0x2000 ≤ a.toNat) (hb : 0x2000 ≤ b.toNat) :
    videoIndex b = videoIndex a ↔ b.toNat % 8 = a.toNat % 8 := by
  unfold videoIndex
  omega

/-! ### PRG-RAM -/

theorem State.read_prgRam_of_readable (ha : window a = .prgRam) (h : prgRamReadable s.mapper = true) :
    s.read a = (Mem.lookup (a.toNat - 0x6000) s.prgRam).getD (Config.prgRamInit s.cartRamDraw (a.toNat - 0x6000)) := by
  rw [State.read_prgRam_window ha, if_pos h]

theorem State.read_prgRam_of_not_readable (ha : window a = .prgRam) (h : prgRamReadable s.mapper = false) :
    s.read a = Config.openBusRead s.drawIndex a := by
  rw [State.read_prgRam_window ha, h]
  rfl

theorem State.write_prgRam_of_writable (ha : window a = .prgRam) (h : prgRamWritable s.mapper = true) :
    s.write a v = s.setPrgRam (Mem.put (a.toNat - 0x6000) v s.prgRam) := by
  rw [State.write_prgRam_window ha, if_pos h]

theorem State.write_prgRam_of_not_writable (ha : window a = .prgRam) (h : prgRamWritable s.mapper = false) :
    s.write a v = s := by
  rw [State.write_prgRam_window ha, h]
  rfl

/-- An accepted write changes PRG-RAM alone, at its own index (R76). -/
theorem State.write_prgRam_stores (ha : window a = .prgRam) (hb : window b = .prgRam)
    (h : prgRamWritable s.mapper = true) :
    s.write a v = { s with prgRam := (s.write a v).prgRam } ∧
      Mem.lookup (a.toNat - 0x6000) (s.write a v).prgRam = some v ∧
      (b ≠ a → Mem.lookup (b.toNat - 0x6000) (s.write a v).prgRam = Mem.lookup (b.toNat - 0x6000) s.prgRam) := by
  rw [State.write_prgRam_of_writable ha h]
  refine ⟨rfl, Mem.lookup_put_same _ _ _, fun hne => Mem.lookup_put_other (fun e => hne ?_) v s.prgRam⟩
  have := window_prgRam.mp ha
  have := window_prgRam.mp hb
  exact BitVec.eq_of_toNat_eq (by omega)

/-! ### A word pushed and popped -/

theorem State.popValue_push (s : State) (v : Byte) : (s.push v).popValue = v := by
  rw [State.popValue_eq, State.push, State.setSp_sp, BitVec.sub_add_cancel, State.read_setSp, State.read_write_stack]

/-- A push below the byte SP designates next leaves that byte (R60, R61). -/
theorem State.popped_popValue_push (s : State) (v : Byte) : (s.push v).popped.popValue = s.popValue := by
  have hne : s.sp + 1 ≠ s.sp := by bv_omega
  rw [State.popValue_eq, State.popped, State.push, State.setSp_sp, State.setSp_sp, BitVec.sub_add_cancel,
    State.read_setSp, State.read_setSp, State.read_write_stack_other s v hne, State.popValue_eq]

/-- The word pushed is popped, low byte first (R62, R63). -/
theorem State.pop16Value_push16 (s : State) (w : Word) : (s.push16 w).pop16Value = w := by
  rw [State.pop16Value, State.push16, State.popValue_push, State.popped_popValue_push, State.popValue_push,
    wordOf_lowByte_highByte]

/-- Popping a pushed word leaves SP where it was (R62, R63). -/
theorem State.popped16_push16_sp (s : State) (w : Word) : (s.push16 w).popped16.sp = s.sp := by
  rw [State.popped16_update, State.push16_update]
  exact BitVec.sub_add_cancel _ _

end

end Sys2Proof.Machine

namespace Sys2Proof.Claims

open Sys2Proof.Machine

/-- Settles O28: two addresses of the RAM window are one byte when their RAM indices agree. -/
theorem ramIsMirroredFourTimes : Obligations.RamIsMirroredFourTimes := by
  intro s a b v ha
  have hwa : window a = .ram := window_ram.mpr ha
  refine ⟨?_, fun hb => State.read_write_ram hwa (window_ram.mpr hb)⟩
  rw [State.write_ram_window hwa]
  rfl

/-- Settles O29: two addresses of the video window are one byte when their register indices agree. -/
theorem videoRegistersRepeatEveryEightBytes : Obligations.VideoRegistersRepeatEveryEightBytes := by
  intro s a b v ha ha'
  have hwa : window a = .video := window_video.mpr ⟨ha, ha'⟩
  refine ⟨?_, fun hb hb' => ?_⟩
  · rw [State.write_video_window hwa]
    rfl
  · rw [State.read_write_video hwa (window_video.mpr ⟨hb, hb'⟩)]
    simp only [videoIndex_eq_iff ha hb]

/-- Settles O30: the write stores its byte, then appends its notification. -/
theorem audioWritesStoreAndNotify : Obligations.AudioWritesStoreAndNotify := by
  intro s a b v ha ha'
  have hwa : window a = .audio := window_audio.mpr ⟨ha, ha'⟩
  refine ⟨?_, fun _ _ => State.read_write_audio hwa, State.write_trace s a v⟩
  rw [State.write_audio_window hwa, State.notify_eq]
  rfl

/-- Settles O31: the expansion range is a window of its own. -/
theorem expansionRangeHoldsNothing : Obligations.ExpansionRangeHoldsNothing := by
  intro s a v ha ha'
  have hwa : window a = .expansion := window_expansion.mpr ⟨ha, ha'⟩
  exact ⟨State.read_expansion_window hwa, State.write_expansion_window hwa⟩

/-- Settles O33: both mappers' enable bits are what `prgRamReadable` and `prgRamWritable` look at. -/
theorem prgRamFollowsItsEnables : Obligations.PrgRamFollowsItsEnables := by
  intro s a b v ha ha' hb hb'
  have hwa : window a = .prgRam := window_prgRam.mpr ⟨ha, ha'⟩
  have hwb : window b = .prgRam := window_prgRam.mpr ⟨hb, hb'⟩
  refine ⟨fun r hm => ⟨fun he => ?_, fun he => ?_⟩,
    fun r hm => ⟨fun he => ?_, fun he => ?_, fun he => ?_, fun he => ?_⟩⟩
  · have hon : (!r.prgBank.getLsbD 4) = true := congrArg not he
    exact ⟨State.read_prgRam_of_readable hwa (by rw [hm]; exact hon),
      State.write_prgRam_stores hwa hwb (by rw [hm]; exact hon)⟩
  · have hoff : (!r.prgBank.getLsbD 4) = false := congrArg not he
    exact ⟨State.read_prgRam_of_not_readable hwa (by rw [hm]; exact hoff),
      State.write_prgRam_of_not_writable hwa (by rw [hm]; exact hoff)⟩
  · exact State.read_prgRam_of_readable hwa (by rw [hm]; exact he)
  · exact State.read_prgRam_of_not_readable hwa (by rw [hm]; exact he)
  · exact State.write_prgRam_stores hwa hwb (by simp [hm, prgRamWritable, he])
  · exact State.write_prgRam_of_not_writable hwa (by simpa [hm, prgRamWritable] using he)

/-- Settles O60: each primitive is Bus accesses at the stack bytes, and the two pushed bytes are different ones. -/
theorem stackPrimitivesStayInPageOne : Obligations.StackPrimitivesStayInPageOne := fun s v w =>
  ⟨State.push_update s v, ⟨State.popValue_eq s, State.popped_update s⟩, rfl, ⟨rfl, rfl⟩, State.pop16Value_push16 s w,
    State.popped16_push16_sp s w, toNat_stackAddr v⟩

end Sys2Proof.Claims

/-! # The mappers: bank translation and register writes (R75 to R84, R95 to R104, R110 to R119) -/

namespace Sys2Proof.Machine

open Sys2Proof.Claims (romByte)

section
variable {s : State} {a : Word} {v : Byte}

/-! ### Bank translation -/

/-- A read of the PRG window is the ROM byte at the translated index (R77). -/
theorem State.read_prg (ha : 0x8000 ≤ a.toNat) : s.read a = romByte s.cart (prgIndex s.cart s.mapper a) :=
  State.read_prg_window (window_prg.mpr ha)

theorem nromPrgIndex_of_one_bank {c : Cartridge} (h : c.prgRomSize = 16384) (a : Word) :
    nromPrgIndex c a = (a &&& 0x3FFF).toNat := by
  rw [nromPrgIndex, if_pos (by rw [prgBanks16, h]), toNat_and_3fff]

theorem nromPrgIndex_of_two_banks {c : Cartridge} (h : c.prgRomSize = 32768) (a : Word) :
    nromPrgIndex c a = a.toNat - 0x8000 := by
  rw [nromPrgIndex, if_neg (by rw [prgBanks16, h]; decide)]

/-- Bits 3:0 of a five-bit register, as arithmetic (R99). -/
theorem toNat_and_0f : ∀ r : BitVec 5, (r &&& 0x0F).toNat = r.toNat % 16 := by decide

/-- Bits 3:2 of a five-bit register, as arithmetic (R97). -/
theorem toNat_bits3_2 : ∀ r : BitVec 5, ((r >>> 2) &&& 3).toNat = r.toNat / 4 % 4 := by decide

/-- The even bank of a pair. -/
theorem sub_mod_two (b : Nat) : b - b % 2 = b / 2 * 2 := by omega

/-- The 16 KB bank of the MMC1 modes (R102). -/
theorem mmc1PrgBank_eq (n : Nat) (r : Mmc1) (a : Word) :
    mmc1PrgBank n r a =
      (let b := (r.prgBank &&& 0x0F).toNat
      let mode := ((r.control >>> 2) &&& 3).toNat
      let lo := if mode = 2 then 0 else if mode = 3 then b else b / 2 * 2
      let hi := if mode = 2 then b else if mode = 3 then n - 1 else b / 2 * 2 + 1
      if a.toNat < 0xC000 then lo else hi) := by
  have hmode : r.control.toNat / 4 % 4 < 4 := Nat.mod_lt _ (by decide)
  rw [toNat_and_0f, toNat_bits3_2, mmc1PrgBank]
  generalize r.control.toNat / 4 % 4 = mode at hmode
  simp only [sub_mod_two, decide_eq_true_eq]
  match mode with
  | 0 | 1 | 2 | 3 => rfl

/-- The 8 KB bank of the four MMC3 slots (R113). -/
theorem mmc3PrgBank_eq (n : Nat) (r : Mmc3) (a : Word) :
    mmc3PrgBank n r a =
      (let slot := a.toNat / 8192 % 4
      let swapped := r.bankSelect.getLsbD 6
      if slot = 0 then (if swapped then n - 2 else r.br[6].toNat)
      else if slot = 1 then r.br[7].toNat
      else if slot = 2 then (if swapped then r.br[6].toNat else n - 2)
      else n - 1) := by
  have hslot : a.toNat / 8192 % 4 < 4 := Nat.mod_lt _ (by decide)
  unfold mmc3PrgBank subWindow
  generalize a.toNat / 8192 % 4 = slot at hslot
  generalize r.bankSelect.getLsbD 6 = swapped
  match slot, swapped with
  | 0, false | 0, true | 1, false | 1, true | 2, false | 2, true | 3, false | 3, true => rfl

/-- The 4 KB bank of the two MMC1 modes (R103). -/
theorem mmc1ChrBank_eq (r : Mmc1) {a : Nat} (ha : a < 0x2000) :
    mmc1ChrBank r a =
      if r.control.getLsbD 4 then (if a < 0x1000 then r.chrBank0.toNat else r.chrBank1.toNat)
      else r.chrBank0.toNat / 2 * 2 + a / 0x1000 := by
  have hslot : a / 0x1000 % 2 = a / 0x1000 := by omega
  rw [mmc1ChrBank, sub_mod_two, hslot]

/-- The 1 KB slot, the 4 KB halves swapped under inversion (R114). -/
theorem mmc3ChrSlot_eq (r : Mmc3) {a : Nat} (ha : a < 0x2000) :
    mmc3ChrSlot r a = if r.bankSelect.getLsbD 7 then (a / 0x400 + 4) % 8 else a / 0x400 := by
  have hslot : a / 0x400 % 8 = a / 0x400 := by omega
  simp only [mmc3ChrSlot, hslot]

theorem mmc3ChrSlot_lt (r : Mmc3) (a : Nat) : mmc3ChrSlot r a < 8 := by
  simp only [mmc3ChrSlot]
  split <;> omega

/-- The 1 KB bank of a slot (R114). -/
theorem mmc3ChrBank_eq (r : Mmc3) (a : Nat) :
    mmc3ChrBank r a =
      [r.br[0].toNat / 2 * 2, r.br[0].toNat / 2 * 2 + 1, r.br[1].toNat / 2 * 2, r.br[1].toNat / 2 * 2 + 1,
        r.br[2].toNat, r.br[3].toNat, r.br[4].toNat, r.br[5].toNat].getD (mmc3ChrSlot r a) 0 := by
  have hslot := mmc3ChrSlot_lt r a
  unfold mmc3ChrBank
  simp only [toNat_evenOdd]
  generalize mmc3ChrSlot r a = slot at hslot
  match slot with
  | 0 | 1 | 2 | 3 | 4 | 5 | 6 | 7 => rfl

/-! ### Every translated index is inside its buffer -/

/-- An offset inside a bank number reduced modulo the bank count is inside the buffer (R77). -/
theorem bank_offset_lt {n size : Nat} (hn : 0 < n) (hsize : 0 < size) (bank a : Nat) :
    bank % n * size + a % size < n * size := by
  have hbank : bank % n + 1 ≤ n := Nat.mod_lt bank hn
  calc bank % n * size + a % size < bank % n * size + size := Nat.add_lt_add_left (Nat.mod_lt a hsize) _
    _ = (bank % n + 1) * size := (Nat.succ_mul _ _).symm
    _ ≤ n * size := Nat.mul_le_mul_right size hbank

/-- The launch premises about the sizes (R10, R80). -/
theorem sizes_of_wf {c : Cartridge} (h : c.wf = true) :
    (0 < c.prgRomSize ∧ c.prgRomSize % 16384 = 0) ∧ c.chrDataSize % 8192 = 0 ∧
      (c.mapperNumber = 0 → c.prgRomSize = 16384 ∨ c.prgRomSize = 32768) := by
  simp only [Cartridge.wf, Cartridge.prgSizeOk, Cartridge.chrSizeOk, Cartridge.nromSizeOk, Bool.and_eq_true,
    decide_eq_true_eq] at h
  obtain ⟨⟨⟨⟨⟨hne, hprg⟩, hchr⟩, hnrom⟩, _⟩, _⟩ := h
  exact ⟨⟨Nat.pos_of_ne_zero hne, hprg⟩, hchr, hnrom⟩

/-- The CHR size is a non-zero multiple of 8192 (R10). -/
theorem chrSize_of_wf {c : Cartridge} (h : c.wf = true) : 8192 ≤ chrSize c ∧ chrSize c % 8192 = 0 := by
  obtain ⟨_, hchr, _⟩ := sizes_of_wf h
  unfold chrSize
  split <;> omega

theorem prgIndex_lt {c : Cartridge} {m : Mapper} (hwf : c.wf = true) (hm : variantOk c m = true)
    (ha : 0x8000 ≤ a.toNat) : prgIndex c m a < c.prgRomSize := by
  obtain ⟨⟨hpos, hmul⟩, _, hnrom⟩ := sizes_of_wf hwf
  cases m with
  | nrom =>
    have hlt := a.isLt
    show nromPrgIndex c a < _
    rcases hnrom (by simpa [variantOk] using hm) with h | h
    · rw [nromPrgIndex_of_one_bank h, toNat_and_3fff, h]
      omega
    · rw [nromPrgIndex_of_two_banks h, h]
      omega
  | mmc1 r =>
    have hbanks : prgBanks16 c * 0x4000 = c.prgRomSize := by unfold prgBanks16; omega
    have hlt := bank_offset_lt (n := prgBanks16 c) (size := 0x4000) (by omega) (by decide)
      (mmc1PrgBank (prgBanks16 c) r a) a.toNat
    rwa [hbanks] at hlt
  | mmc3 r =>
    have hbanks : prgBanks8 c * 0x2000 = c.prgRomSize := by unfold prgBanks8; omega
    have hlt := bank_offset_lt (n := prgBanks8 c) (size := 0x2000) (by omega) (by decide)
      (mmc3PrgBank (prgBanks8 c) r a) a.toNat
    rwa [hbanks] at hlt

theorem chrIndex_lt {c : Cartridge} (hwf : c.wf = true) (m : Mapper) (a : Nat) : chrIndex c m a < chrSize c := by
  obtain ⟨hpos, hmul⟩ := chrSize_of_wf hwf
  cases m with
  | nrom => exact Nat.lt_of_lt_of_le (Nat.mod_lt a (by decide)) hpos
  | mmc1 r =>
    have hbanks : chrBanks4 c * 0x1000 = chrSize c := by unfold chrBanks4; omega
    have hlt := bank_offset_lt (n := chrBanks4 c) (size := 0x1000) (by omega) (by decide) (mmc1ChrBank r a) a
    rwa [hbanks] at hlt
  | mmc3 r =>
    have hbanks : chrBanks1 c * 0x400 = chrSize c := by unfold chrBanks1; omega
    have hlt := bank_offset_lt (n := chrBanks1 c) (size := 0x400) (by omega) (by decide) (mmc3ChrBank r a) a
    rwa [hbanks] at hlt

end

end Sys2Proof.Machine

namespace Sys2Proof.Claims

open Sys2Proof.Machine

/-- Settles O32: the two PRG sizes choose the index, and NROM has no PRG-RAM and no register. -/
theorem nromReadsItsOneOrTwoBanks : Obligations.NromReadsItsOneOrTwoBanks := by
  intro s a v hm
  have hread : 0x8000 ≤ a.toNat → s.read a = romByte s.cart (nromPrgIndex s.cart a) := fun ha => by
    rw [State.read_prg ha, hm]
    rfl
  have hwritable : prgRamWritable s.mapper = false := by rw [hm]; rfl
  have hreadable : prgRamReadable s.mapper = false := by rw [hm]; rfl
  refine ⟨fun ha hsize => ?_, fun ha hsize => ?_, fun ha ha' => ?_, fun ha => ?_⟩
  · rw [hread ha, nromPrgIndex_of_one_bank hsize]
  · rw [hread ha, nromPrgIndex_of_two_banks hsize]
  · by_cases h : a.toNat < 0x6000
    · exact State.read_expansion_window (window_expansion.mpr ⟨ha, h⟩)
    · exact State.read_prgRam_of_not_readable (window_prgRam.mpr ⟨by omega, ha'⟩) hreadable
  · by_cases h : a.toNat < 0x6000
    · exact State.write_expansion_window (window_expansion.mpr ⟨ha, h⟩)
    · by_cases h' : a.toNat < 0x8000
      · exact State.write_prgRam_of_not_writable (window_prgRam.mpr ⟨by omega, h'⟩) hwritable
      · exact State.write_nrom hm (by omega) v

/-- Settles O36: the bank is that of the mode, and no Bus write reaches the cartridge. -/
theorem mmc1MapsPrgByMode : Obligations.Mmc1MapsPrgByMode := by
  intro s r a v hm ha
  refine ⟨?_, State.write_cart s a v⟩
  have hread : s.read a = romByte s.cart (mmc1PrgIndex s.cart r a) := by
    rw [State.read_prg ha, hm]
    rfl
  rw [hread, mmc1PrgIndex, mmc1PrgBank_eq, ← toNat_and_3fff]
  rfl

/-- Settles O38: the bank is that of the slot. -/
theorem mmc3MapsPrgBySlot : Obligations.Mmc3MapsPrgBySlot := by
  intro s r a hm ha
  have hread : s.read a = romByte s.cart (mmc3PrgIndex s.cart r a) := by
    rw [State.read_prg ha, hm]
    rfl
  rw [hread, mmc3PrgIndex, mmc3PrgBank_eq, ← toNat_and_1fff]
  rfl

/-- Settles O39: mapper by mapper, the bank of the address. -/
theorem chrTranslationsOfTheThreeMappers : Obligations.ChrTranslationsOfTheThreeMappers := by
  intro c a ha
  refine ⟨Nat.mod_eq_of_lt ha, fun r => ?_, fun r => ?_⟩
  · rw [chrIndex, mmc1ChrBank_eq r ha]
    rfl
  · rw [chrIndex, mmc3ChrBank_eq, mmc3ChrSlot_eq r ha]
    rfl

/-- Settles O40: a bank number reduced modulo the bank count, for buffers of whole banks. -/
theorem bankOffsetsLandInsideTheirBuffers : Obligations.BankOffsetsLandInsideTheirBuffers := fun _ m hwf hm =>
  ⟨fun _ ha => prgIndex_lt hwf hm ha, fun a _ => chrIndex_lt hwf m a⟩

end Sys2Proof.Claims

/-! # The mapper registers: MMC1's serial port, MMC3's registers and scanline counter, mapper reset, and the host's
accesses (R69, R74 to R76, R79, R84, R95 to R101, R110 to R119) -/

namespace Sys2Proof.Machine

section
variable {s : State} {a : Word} {v : Byte}

/-! ### MMC1: the three cases of a register write -/

theorem mmc1Write_reset (r : Mmc1) (a : Word) (hv : v.getLsbD 7 = true) :
    mmc1Write a v r = { r with shiftReg := 0, shiftCount := 0, control := r.control ||| 0x0C } := by
  rw [mmc1Write, if_pos hv]

theorem mmc1Write_shift {r : Mmc1} (a : Word) (hv : v.getLsbD 7 = false) (hc : r.shiftCount ≠ 4) :
    mmc1Write a v r = { r with shiftReg := mmc1Shift r v, shiftCount := r.shiftCount + 1 } := by
  rw [mmc1Write, if_neg (ne_true_of_eq_false hv), if_neg hc]

/-- The fifth write clears the shift state and latches the register its target names, and that one alone (R95, R100). -/
theorem mmc1Write_latch {r : Mmc1} {value : Nat} (a : Word) (hv : v.getLsbD 7 = false) (hc : r.shiftCount = 4)
    (hvalue : (mmc1Shift r v).toNat = value) :
    (mmc1Write a v r).shiftReg = 0 ∧ (mmc1Write a v r).shiftCount = 0 ∧
      (mmc1Write a v r).control.toNat = (if subWindow a = 0 then value else r.control.toNat) ∧
      (mmc1Write a v r).chrBank0.toNat = (if subWindow a = 1 then value else r.chrBank0.toNat) ∧
      (mmc1Write a v r).chrBank1.toNat = (if subWindow a = 2 then value else r.chrBank1.toNat) ∧
      (mmc1Write a v r).prgBank.toNat = (if subWindow a = 3 then value else r.prgBank.toNat) := by
  have ht := subWindow_lt a
  rw [mmc1Write, if_neg (ne_true_of_eq_false hv), if_pos hc, ← hvalue]
  generalize subWindow a = target at ht
  match target with
  | 0 | 1 | 2 | 3 => exact ⟨rfl, rfl, rfl, rfl, rfl, rfl⟩

/-- The mirroring field as arithmetic (R97). -/
theorem mmc1MirroringMode_eq (control : BitVec 5) :
    mmc1MirroringMode control =
      if control.toNat % 4 = 0 then .singleScreenLower
      else if control.toNat % 4 = 1 then .singleScreenUpper
      else if control.toNat % 4 = 2 then .vertical
      else .horizontal := by
  have hmode : control.toNat % 4 < 4 := Nat.mod_lt _ (by decide)
  unfold mmc1MirroringMode
  generalize control.toNat % 4 = mode at hmode
  match mode with
  | 0 | 1 | 2 | 3 => rfl

theorem mmc1Mirroring_reset (r : Mmc1) (a : Word) (m : Mirroring) (hv : v.getLsbD 7 = true) :
    mmc1Mirroring a v r m = m := if_neg fun h => Bool.false_ne_true (h.1.symm.trans hv)

theorem mmc1Mirroring_shift {r : Mmc1} (a : Word) (m : Mirroring) (hc : r.shiftCount ≠ 4) :
    mmc1Mirroring a v r m = m := if_neg fun h => hc h.2.1

/-- A latch into control sets the mirroring, a latch elsewhere keeps it (R101). -/
theorem mmc1Mirroring_latch {r : Mmc1} (a : Word) (m : Mirroring) (hv : v.getLsbD 7 = false) (hc : r.shiftCount = 4) :
    mmc1Mirroring a v r m = if subWindow a = 0 then mmc1MirroringMode (mmc1Shift r v) else m := by
  simp only [mmc1Mirroring, hv, hc, true_and]

/-- A serial write before the fifth, as a number: the shift register takes one bit, the rest of the registers stay
(R95). -/
theorem State.write_mmc1_shift {r : Mmc1} {x : BitVec 5} {n : Fin 5}
    (hm : s.mapper = .mmc1 { r with shiftReg := x, shiftCount := n }) (ha : 0x8000 ≤ a.toNat)
    (hv : v.getLsbD 7 = false) (hn : n ≠ 4) :
    ∃ y : BitVec 5, (s.write a v).mapper = .mmc1 { r with shiftReg := y, shiftCount := n + 1 } ∧
      y.toNat = x.toNat / 2 + 16 * (v.toNat % 2) := by
  refine ⟨_, ?_, (toNat_mmc1Shift { r with shiftReg := x, shiftCount := n } v).trans (by rw [toNat_bit0])⟩
  rw [State.write_mmc1 hm ha, mmc1Write_shift a hv hn]

/-! ### MMC3: the eight registers -/

/-- Bit 0 of an address as parity. -/
theorem getLsbD_zero_eq (a : Word) : a.getLsbD 0 = decide (a.toNat % 2 = 1) := Nat.testBit_zero a.toNat

/-! ### The scanline counter -/

theorem onScanline_mmc3 {r : Mmc3} (hm : s.mapper = .mmc3 r) :
    onScanline s = ({ s with mapper := .mmc3 (mmc3Scanline r) }, (mmc3Scanline r).irqPending) := by
  rw [onScanline, hm]
  rfl

/-- Reload or decrement (R119). -/
theorem toNat_mmc3ScanlineCounter (r : Mmc3) :
    (mmc3ScanlineCounter r).toNat =
      if r.irqCounter.toNat = 0 ∨ r.irqReload = true then r.irqLatch.toNat else r.irqCounter.toNat - 1 := by
  have hzero : r.irqCounter = 0 ↔ r.irqCounter.toNat = 0 := BitVec.toNat_inj.symm
  simp only [mmc3ScanlineCounter, hzero]
  split
  · rfl
  · bv_omega

/-- The pending flag is raised when the counter is then 0 and interrupts are enabled, and kept otherwise (R119). -/
theorem mmc3Scanline_irqPending (r : Mmc3) :
    (mmc3Scanline r).irqPending = true ↔
      r.irqPending = true ∨ ((mmc3ScanlineCounter r).toNat = 0 ∧ r.irqEnabled = true) := by
  have hzero : mmc3ScanlineCounter r = 0 ↔ (mmc3ScanlineCounter r).toNat = 0 := BitVec.toNat_inj.symm
  rw [mmc3Scanline, Bool.or_eq_true, Bool.and_eq_true, beq_iff_eq, hzero]

/-- With interrupts enabled and none pending, a call that will leave the counter at `m` starts the count: call `m + 1`
from here is the first to report (R119). -/
theorem onScanline_afterScanlines {r : Mmc3} {k : Nat} (hm : s.mapper = .mmc3 r) (he : r.irqEnabled = true)
    (hp : r.irqPending = false) (hk : k ≤ (mmc3ScanlineCounter r).toNat) :
    (onScanline (afterScanlines k s)).2 = decide (k = (mmc3ScanlineCounter r).toNat) := by
  induction k generalizing s r with
  | zero =>
    rw [afterScanlines, onScanline_mmc3 hm, Bool.eq_iff_iff, mmc3Scanline_irqPending]
    simp [hp, he, eq_comm]
  | succ k ih =>
    let r' := mmc3Scanline r
    have hcount : r'.irqCounter.toNat = (mmc3ScanlineCounter r).toNat := rfl
    have hnext : (mmc3ScanlineCounter r').toNat = (mmc3ScanlineCounter r).toNat - 1 := by
      rw [toNat_mmc3ScanlineCounter, if_neg (by rintro (h | h); omega; cases h), hcount]
    have hp' : r'.irqPending = false := by
      rw [← Bool.not_eq_true, mmc3Scanline_irqPending, hp]
      rintro (h | ⟨h, _⟩)
      · cases h
      · omega
    have hs : (onScanline s).1.mapper = .mmc3 r' := by rw [onScanline_mmc3 hm]
    rw [afterScanlines, ih hs he hp' (by omega), hnext]
    exact decide_eq_decide.mpr (by omega)

/-! ### The host's accesses -/

/-- Masking an address to 16 bits is its residue modulo 65536 (R69). -/
theorem ofInt_eq_ofNat_emod (address : Int) : BitVec.ofInt 16 address = BitVec.ofNat 16 (address % 65536).toNat := by
  apply BitVec.eq_of_toNat_eq
  rw [BitVec.toNat_ofInt, BitVec.toNat_ofNat]
  omega

/-- A byte given as an integer (R53). -/
theorem ofInt_eq_ofNat_toNat {data : Int} (h : 0 ≤ data) : BitVec.ofInt 8 data = BitVec.ofNat 8 data.toNat := by
  rw [← BitVec.ofInt_natCast, Int.toNat_of_nonneg h]

/-- The CHR byte at an index after a CHR-RAM write (R78). -/
theorem State.chrByte_setChrRam_put (hram : chrIsRam s.cart = true) (i j : Nat) (v : Byte) :
    (s.setChrRam (Mem.put i v s.chrRam)).chrByte j = if j = i then v else s.chrByte j := by
  rw [State.chrByte, State.chrByte, State.setChrRam_cart, if_pos hram, if_pos hram, State.setChrRam_chrRam,
    Mem.lookup_put]
  split <;> rfl

end

end Sys2Proof.Machine

namespace Sys2Proof.Claims

open Sys2Proof.Machine

/-- Settles O34: reset, latch or shift; each is the register write of its own lemma. -/
theorem mmc1SingleWriteProtocol : Obligations.Mmc1SingleWriteProtocol := by
  intro s r a v hm ha
  have hw := State.write_mmc1 hm ha v
  refine ⟨mmc1Write a v r, by rw [hw], ?_⟩
  rw [hw]
  by_cases hv : v.getLsbD 7 = true
  · simp only [if_pos hv]
    exact ⟨mmc1Write_reset r a hv, mmc1Mirroring_reset r a _ hv⟩
  · dsimp only
    rw [if_neg hv]
    have hv' := eq_false_of_ne_true hv
    have hvalue := toNat_mmc1Shift r v
    by_cases hc : r.shiftCount = 4
    · have hc4 : r.shiftCount.val = 4 := congrArg Fin.val hc
      obtain ⟨hreg, hcount, hctl, hchr0, hchr1, hprg⟩ := mmc1Write_latch a hv' hc hvalue
      rw [if_pos hc4, mmc1Mirroring_latch a _ hv' hc, mmc1MirroringMode_eq, hvalue]
      exact ⟨hreg, hcount, hctl, hchr0, hchr1, hprg, rfl⟩
    · have hc4 : ¬ r.shiftCount.val = 4 := fun h => hc (Fin.ext h)
      rw [if_neg hc4, mmc1Write_shift a hv' hc]
      exact ⟨hvalue, Fin.val_add_one_of_lt (Fin.lt_last_iff_ne_last.mpr hc), rfl, rfl, rfl, rfl,
        mmc1Mirroring_shift a _ hc⟩

/-- Settles O35: four shifts carry the first four bits down, the fifth write latches. -/
theorem mmc1FiveWritesLatchTheirBits : Obligations.Mmc1FiveWritesLatchTheirBits := by
  intro s r a1 a2 a3 a4 a5 v1 v2 v3 v4 v5 hm hc h1 h2 h3 h4 h5 b1 b2 b3 b4 b5
  have hm0 : s.mapper = .mmc1 { r with shiftReg := r.shiftReg, shiftCount := 0 } := by rw [hm, ← hc]
  obtain ⟨x1, hm1, e1⟩ := State.write_mmc1_shift hm0 h1 b1 (by decide)
  obtain ⟨x2, hm2, e2⟩ := State.write_mmc1_shift hm1 h2 b2 (by decide)
  obtain ⟨x3, hm3, e3⟩ := State.write_mmc1_shift hm2 h3 b3 (by decide)
  obtain ⟨x4, hm4, e4⟩ := State.write_mmc1_shift hm3 h4 b4 (by decide)
  have hvalue : (mmc1Shift { r with shiftReg := x4, shiftCount := 4 } v5).toNat =
      v1.toNat % 2 + 2 * (v2.toNat % 2) + 4 * (v3.toNat % 2) + 8 * (v4.toNat % 2) + 16 * (v5.toNat % 2) := by
    have hx := r.shiftReg.isLt
    rw [toNat_mmc1Shift, toNat_bit0]
    dsimp only
    omega
  exact ⟨_, congrArg State.mapper (State.write_mmc1 hm4 h5 v5), mmc1Write_latch a5 b5 rfl hvalue⟩

/-- Settles O37: the registers by sub-window and parity; the mirroring register is the one outside `Mmc3`. -/
theorem mmc3RegisterWrites : Obligations.Mmc3RegisterWrites := by
  intro s r a v hm ha
  have hw : a.toNat / 8192 % 4 < 4 := Nat.mod_lt _ (by decide)
  rw [State.write_mmc3 hm ha]
  unfold mmc3Write mmc3Mirroring subWindow
  rw [getLsbD_zero_eq]
  generalize a.toNat / 8192 % 4 = w at hw
  cases s
  dsimp only at hm
  subst hm
  rcases Nat.mod_two_eq_zero_or_one a.toNat with h | h <;> rw [h] <;>
  match w with
  | 0 | 1 | 2 | 3 => rfl

/-- Settles O41: the port is the storage at the translated index. -/
theorem chrPortReadsAndWrites : Obligations.ChrPortReadsAndWrites := by
  intro s a b v
  refine ⟨fun h => ⟨if_neg h, if_neg h⟩, fun ha hb => ⟨_, _, if_pos ha, if_pos hb, ?_, fun hrom => ?_, fun hram => ?_⟩⟩
  · split <;> rfl
  · have hrom' : ¬ chrIsRam s.cart = true := by simpa [chrIsRam] using hrom
    exact ⟨if_neg hrom', if_neg hrom'⟩
  · have hram' : chrIsRam s.cart = true := by simpa [chrIsRam] using hram
    rw [if_pos hram', ppuRead, if_pos hb, State.chrByte_setChrRam_put hram']
    rfl

/-- Settles O42: the counter and the pending flag of one call. -/
theorem scanlineCounterCountsOnce : Obligations.ScanlineCounterCountsOnce := by
  intro s
  refine ⟨fun r hm => ⟨mmc3Scanline r, onScanline_mmc3 hm, rfl, toNat_mmc3ScanlineCounter r,
    mmc3Scanline_irqPending r⟩, ?_⟩
  rintro (hm | ⟨r, hm⟩) <;> rw [onScanline, hm]

/-- Settles O43: the reload request makes the first call leave the latch in the counter. -/
theorem scanlineInterruptComesAtCallLPlusOne : Obligations.ScanlineInterruptComesAtCallLPlusOne := by
  intro s r k hm hreload _ he hp hk
  have hfirst : (mmc3ScanlineCounter r).toNat = r.irqLatch.toNat := by
    rw [toNat_mmc3ScanlineCounter, if_pos (.inr hreload)]
  rw [← hfirst] at hk ⊢
  exact onScanline_afterScanlines hm he hp hk

/-- Settles O48: mapper reset writes five fields; the registers are those of power-on. -/
theorem mapperResetRestoresPowerOn : Obligations.MapperResetRestoresPowerOn := by
  intro s
  have hmapper : (mapperReset s).mapper = mapperPowerOn s.mapper := rfl
  refine ⟨rfl, fun hm => ?_, fun r hm => ?_, fun r hm => ?_⟩ <;> rw [hmapper, hm] <;> rfl

/-- Settles O49: the masked address and the byte of the data. -/
theorem rawHostAccessesAreBusAccesses : Obligations.RawHostAccessesAreBusAccesses := by
  intro s address data
  rw [← ofInt_eq_ofNat_emod]
  refine ⟨rfl, fun h => ?_, fun h => if_neg h⟩
  rw [hostWrite, if_pos h, ofInt_eq_ofNat_toNat h.1]

end Sys2Proof.Claims


/-! # The opcode table: decoding, encoding and base cycles (R141, R145, R160 to R163, R402, R461) -/

namespace Sys2Proof

open Sys2Proof.Machine (tableCycles lowByte highByte wordOf toNat_wordOf)

/-! ### The operand word -/

@[simp] theorem lowByte_operandWord (lo hi : Byte) : lowByte (operandWord lo hi) = lo :=
  BitVec.setWidth_append_eq_right

@[simp] theorem highByte_operandWord (lo hi : Byte) : highByte (operandWord lo hi) = hi := by
  apply BitVec.eq_of_toNat_eq
  change (wordOf lo hi).toNat >>> 8 % 256 = hi.toNat
  rw [toNat_wordOf, Nat.shiftRight_eq_div_pow]
  omega

@[simp] theorem operandWord_lowByte_highByte (w : Word) : operandWord (lowByte w) (highByte w) = w :=
  Machine.wordOf_lowByte_highByte w

/-! ### The decoder and the rows of the table -/

/-- The form makes the instruction of exactly these operand bytes: none, one, or a word's two, low byte first (R145). -/
inductive Form.Makes : Form → Instr → List Byte → Prop
  | plain (i : Instr) : Makes (.plain i) i []
  | byte (mk : Byte → Instr) (b : Byte) : Makes (.byte mk) (mk b) [b]
  | word (mk : Word → Instr) (w : Word) : Makes (.word mk) (mk w) [lowByte w, highByte w]

theorem Form.Makes.of_two_bytes (mk : Word → Instr) (lo hi : Byte) :
    (Form.word mk).Makes (mk (operandWord lo hi)) [lo, hi] := by
  simpa using word mk (operandWord lo hi)

theorem Form.exists_makes (f : Form) : ∃ i operands, f.Makes i operands := by
  cases f with
  | plain i => exact ⟨_, _, .plain i⟩
  | byte mk => exact ⟨_, _, .byte mk 0⟩
  | word mk => exact ⟨_, _, .word mk 0⟩

/-- What the decoder accepts: a mapped opcode, then the operand bytes its row takes, then anything. -/
theorem decode_eq_ok_iff {bytes rest : List Byte} {i : Instr} :
    decode bytes = .ok (i, rest) ↔
      ∃ op e operands, opcodeEntry op.toNat = some e ∧ e.form.Makes i operands ∧ bytes = op :: operands ++ rest := by
  constructor
  · intro h
    cases bytes with
    | nil => cases h
    | cons op tail =>
      cases he : opcodeEntry op.toNat with
      | none => simp only [decode, he, reduceCtorEq] at h
      | some e =>
        obtain ⟨_, _, _, form⟩ := e
        suffices h' : ∃ operands, form.Makes i operands ∧ tail = operands ++ rest by
          obtain ⟨operands, hm, rfl⟩ := h'
          exact ⟨op, _, operands, he, hm, rfl⟩
        simp only [decode, he] at h
        match form, tail with
        | .plain j, _ => cases h; exact ⟨_, .plain _, rfl⟩
        | .byte mk, b :: _ => cases h; exact ⟨_, .byte mk b, rfl⟩
        | .word mk, lo :: hi :: _ => cases h; exact ⟨_, .of_two_bytes mk lo hi, rfl⟩
  · rintro ⟨op, ⟨_, _, _, form⟩, operands, he, hm, rfl⟩
    cases hm with
    | plain i => simp [decode, he]
    | byte mk b => simp [decode, he]
    | word mk w => simp [decode, he]

/-- The row of an instruction's opcode makes the instruction of its operand bytes, with the count R461 gives it. With
the opcode byte as a literal first, each look-up in the table is a computation on numerals. -/
theorem entry_of_instr (i : Instr) :
    ∃ e, opcodeEntry i.opcode.toNat = some e ∧ e.form.Makes i i.operands ∧ e.cycles = tableCycles i := by
  cases i <;> dsimp only [Instr.opcode] <;> exact ⟨_, rfl, by constructor, rfl⟩

/-- Row by row, the encoder writes the row's number and the operand bytes back. -/
theorem encode_of_entry {n : Nat} {e : Entry} {i : Instr} {operands : List Byte}
    (he : opcodeEntry n = some e) (hm : e.form.Makes i operands) : encode i = BitVec.ofNat 8 n :: operands := by
  unfold opcodeEntry at he
  split at he <;> cases he <;> cases hm <;> rfl

theorem encode_of_entry_toNat {op : Byte} {e : Entry} {i : Instr} {operands : List Byte}
    (he : opcodeEntry op.toNat = some e) (hm : e.form.Makes i operands) : encode i = op :: operands := by
  rw [encode_of_entry he hm, BitVec.ofNat_toNat, BitVec.setWidth_eq]

theorem decode_encode (i : Instr) (rest : List Byte) : decode (encode i ++ rest) = .ok (i, rest) := by
  obtain ⟨e, he, hm, -⟩ := entry_of_instr i
  exact decode_eq_ok_iff.mpr ⟨_, e, _, he, hm, rfl⟩

theorem encode_of_decode {bytes rest : List Byte} {i : Instr} (h : decode bytes = .ok (i, rest)) :
    encode i ++ rest = bytes := by
  obtain ⟨op, e, operands, he, hm, rfl⟩ := decode_eq_ok_iff.mp h
  rw [encode_of_entry_toNat he hm]

/-! ### The base cycles (R461) -/

theorem baseCycles_opcode (i : Instr) : baseCycles i.opcode = tableCycles i := by
  obtain ⟨e, he, -, hc⟩ := entry_of_instr i
  rw [baseCycles, he, ← hc]

theorem tableCycles_bounds (i : Instr) : 2 ≤ tableCycles i ∧ tableCycles i ≤ 7 := by
  cases i <;> simp [tableCycles]

theorem exists_opcode_eq_of_mapped {op : Byte} (h : (opcodeEntry op.toNat).isSome = true) :
    ∃ i : Instr, i.opcode = op := by
  obtain ⟨e, he⟩ := Option.isSome_iff_exists.mp h
  obtain ⟨i, _, hm⟩ := e.form.exists_makes
  exact ⟨i, (List.cons.inj (encode_of_entry_toNat he hm)).1⟩

end Sys2Proof

/-! # Fetch and step on decoded bytes, and the addresses of the modes (R140 to R156, R402) -/

namespace Sys2Proof.Machine

section
variable {s t : State} {i : Instr} {rest : List Byte}

theorem step_of_decode (hf : s.fault = none) (hd : decode s.fetchBytes = .ok (i, rest)) :
    step s = endStep (exec i s.nextDraw) := by
  simp only [step, hf, State.fetchInstr_of_decode hd]

theorem step_of_unmapped (hf : s.fault = none) (hop : opcodeEntry (s.read s.pc).toNat = none) :
    step s = .fault s.invalidOpcode := by
  have hi : s.fetchInstr = none := instrAt_unmapped.mpr hop
  simp only [step, hf, hi]

theorem hostStep_of_step_fault {f : Fault} (hf : s.fault = none) (h : step s = .fault f) :
    hostStep s = (((s.advance 1).setFault (some f)).nextDraw, .fault f) := by
  simp only [hostStep, h, State.afterFault, hf]

theorem hostStep_of_decode (hd : decode s.fetchBytes = .ok (i, rest)) (ht : step s = .next t) :
    hostStep s = (t, .next (tableCycles i)) := by
  have hop : i.opcode = s.read s.pc := (List.cons.inj (encode_of_decode hd)).1
  simp only [hostStep, ht, ← hop, baseCycles_opcode]

end

/-! ### The effective addresses as arithmetic -/

@[simp] theorem toNat_zext16 (b : Byte) : (zext16 b).toNat = b.toNat := by
  have h := b.isLt
  rw [zext16, BitVec.toNat_setWidth]
  omega

theorem zext16_eq (b : Byte) : zext16 b = BitVec.ofNat 16 b.toNat :=
  BitVec.eq_of_toNat_eq (by have h := b.isLt; rw [toNat_zext16, BitVec.toNat_ofNat]; omega)

/-- The two settings of `ZP_PTR_WRAP` differ at 0xFF alone (R155, R156). -/
theorem zpPointerHighAddr_eq (wrap : Bool) (p : Byte) :
    zpPointerHighAddr wrap p =
      BitVec.ofNat 16 (if p.toNat = 255 then (if wrap then 0 else 256) else p.toNat + 1) := by
  unfold zpPointerHighAddr
  by_cases hp : p = 0xFF
  · subst hp
    cases wrap <;> rfl
  · have hne : p.toNat ≠ 255 := fun h => hp (BitVec.eq_of_toNat_eq h)
    have hlt := p.isLt
    rw [if_neg hp, if_neg hne, zext16_eq, BitVec.toNat_add, Nat.mod_eq_of_lt (by simp; omega)]
    rfl

theorem State.zpPointer_eq (s : State) (wrap : Bool) (p : Byte) :
    s.zpPointer wrap p =
      s.read (BitVec.ofNat 16 (if p.toNat = 255 then (if wrap then 0 else 256) else p.toNat + 1)) ++
        s.read (BitVec.ofNat 16 p.toNat) := by
  rw [State.zpPointer, zpPointerHighAddr_eq, zext16_eq, wordOf]

/-- Incrementing only the low byte of a pointer is arithmetic modulo 256 in its page (R154). -/
theorem indirectHighAddr_eq (ptr : Word) :
    indirectHighAddr ptr = BitVec.ofNat 16 (ptr.toNat / 256 * 256 + (ptr.toNat + 1) % 256) := by
  have hlt := ptr.isLt
  have hpage : (ptr &&& (0xFF00 : Word)).toNat = (ptr.toNat / 256) <<< 8 := by
    have hmask : ptr &&& (0xFF00 : Word) = ptr >>> 8 <<< 8 := (BitVec.shiftLeft_ushiftRight (x := ptr) (n := 8)).symm
    rw [hmask, BitVec.toNat_shiftLeft, BitVec.toNat_ushiftRight, Nat.shiftRight_eq_div_pow, Nat.shiftLeft_eq]
    omega
  have hlow : ((ptr + 1) &&& (0x00FF : Word)).toNat = (ptr.toNat + 1) % 256 := by
    rw [BitVec.toNat_and, BitVec.toNat_add]
    exact (Nat.and_two_pow_sub_one_eq_mod _ 8).trans (by simp)
  apply BitVec.eq_of_toNat_eq
  rw [indirectHighAddr, BitVec.toNat_or, hpage, hlow, ← Nat.shiftLeft_add_eq_or_of_lt (Nat.mod_lt _ (by decide)),
    Nat.shiftLeft_eq, BitVec.toNat_ofNat]
  omega

end Sys2Proof.Machine

namespace Sys2Proof.Claims

open Sys2Proof.Machine

/-- Settles O53: the row of the instruction's opcode makes the instruction again. -/
theorem decodeUndoesEncode : Obligations.DecodeUndoesEncode := fun i rest _ => decode_encode i rest

/-- Settles O54: what the decoder accepts is a row's opcode and operand bytes, which the encoder writes back. -/
theorem encodeUndoesDecode : Obligations.EncodeUndoesDecode := fun _ _ _ => encode_of_decode

/-- Settles O8: a jump writes PC alone. -/
theorem jmpSetsPcWithThePageWrapBug : Obligations.JmpSetsPcWithThePageWrapBug := by
  refine ⟨fun lo hi => ⟨fun _ => rfl, fun s => ⟨_, rfl, rfl⟩⟩, fun _ _ => rfl,
    fun lo hi => ⟨fun _ => rfl, fun s => ⟨_, rfl, rfl⟩⟩, fun ptr s => ?_⟩
  rw [eaInd, indirectHighAddr_eq, wordOf]

/-- Settles O20: an index byte is added modulo 256 in the zero page and modulo 65536 elsewhere. -/
theorem addressingModesComputeTheirAddress : Obligations.AddressingModesComputeTheirAddress := by
  intro b w s
  refine ⟨toNat_zext16 b, ?_, ?_, rfl, ?_, ?_, ?_, ?_⟩
  · rw [eaZpX, toNat_zext16, BitVec.toNat_add]
  · rw [eaZpY, toNat_zext16, BitVec.toNat_add]
  · rw [eaAbsX, BitVec.toNat_add, toNat_zext16]
  · rw [eaAbsY, BitVec.toNat_add, toNat_zext16]
  · rw [eaIndX, State.zpPointer_eq, BitVec.toNat_add]
  · rw [eaIndY, BitVec.toNat_add, toNat_zext16, State.zpPointer_eq]

/-- Settles O44: the fetch finds no row, and the record and PC are what a fault leaves. -/
theorem unmappedOpcodesFaultAtDecode : Obligations.UnmappedOpcodesFaultAtDecode :=
  ⟨rfl, fun _ hf hop => ⟨step_of_unmapped hf hop, hostStep_of_step_fault hf (step_of_unmapped hf hop)⟩⟩

/-- Settles O51: the count of the instruction's row, found again from the opcode byte. -/
theorem baseCyclesFollowTheTable : Obligations.BaseCyclesFollowTheTable := by
  refine ⟨fun i op rest henc => ?_, fun _ _ _ _ => hostStep_of_decode, fun op hop => ?_⟩
  · obtain ⟨rfl, -⟩ := List.cons.inj henc
    exact baseCycles_opcode i
  · obtain ⟨i, rfl⟩ := exists_opcode_eq_of_mapped hop
    rw [baseCycles_opcode]
    exact tableCycles_bounds i

/-- Settles O52: the fetch finds the decoded instruction, and the end of the step keeps the kind of the answer. -/
theorem stepRunsTheDecodedInstruction : Obligations.StepRunsTheDecodedInstruction := by
  intro s i rest hf _ hd
  have hstep : step s = endStep (exec i s.nextDraw) := step_of_decode hf hd
  refine ⟨fun t ht => ?_, fun f hx => ?_, fun r hx => ?_⟩
  · exact hstep.trans (congrArg endStep ht)
  · exact hstep.trans (congrArg endStep hx)
  · exact hstep.trans (congrArg endStep hx)

/-- Settles O55: each written-out word, byte by byte. -/
theorem writtenOutWordsDecode : Obligations.WrittenOutWordsDecode :=
  ⟨rfl, rfl, rfl, rfl, rfl, rfl, rfl, rfl, rfl, rfl, rfl, rfl⟩

end Sys2Proof.Claims


/-! # Arithmetic, increments and register transfers (R200 to R212, R224, R225, R280 to R283) -/

namespace Sys2Proof.Machine

/-! ### The result and the overflow of ADC and SBC as arithmetic -/

/-- The result byte is the sum modulo 256 (R201). -/
theorem adcResult_eq_mod (a m : Byte) (c : Bool) : adcResult a m c = BitVec.ofNat 8 (adcSum a m c % 256) :=
  BitVec.eq_of_toNat_eq (by simp [adcResult])

theorem toNat_adcResult (a m : Byte) (c : Bool) : (adcResult a m c).toNat = (a.toNat + m.toNat + c.toNat) % 256 :=
  BitVec.toNat_ofNat _ 8

/-- Subtracting with borrow is adding the complement with carry (R202). -/
theorem sbcResult_eq_adcResult_not (a m : Byte) (c : Bool) : sbcResult a m c = adcResult a (~~~m) c := by
  have hm := m.isLt
  apply BitVec.eq_of_toNat_eq
  rw [toNat_adcResult, BitVec.toNat_not, sbcResult, sbcDiff, BitVec.toNat_ofInt]
  omega

theorem sbcOverflow_eq_adcOverflow_not (a m r : Byte) : sbcOverflow a m r = adcOverflow a (~~~m) r := by
  have hnot : m ^^^ 0xFF = ~~~m := BitVec.xor_allOnes
  rw [sbcOverflow, hnot, adcOverflow]

/-- The mask 0x80 selects the sign. -/
theorem and_0x80_bne_zero (v : Byte) : (v &&& 0x80 != 0) = v.msb := by
  have hmask : v &&& 0x80 = if v.msb then 0x80 else 0 := BitVec.and_twoPow v 7
  rw [hmask]
  cases v.msb <;> rfl

/-- V of ADC: the result's sign is neither the accumulator's nor the operand's (R201). -/
theorem adcOverflow_iff (a m r : Byte) :
    adcOverflow a m r = true ↔ a.toNat / 128 ≠ r.toNat / 128 ∧ m.toNat / 128 ≠ r.toNat / 128 := by
  have ha := a.isLt
  have hm := m.isLt
  have hr := r.isLt
  rw [adcOverflow, and_0x80_bne_zero, BitVec.msb_and, BitVec.msb_xor, BitVec.msb_xor]
  simp only [BitVec.msb_eq_decide, Bool.and_eq_true, bne_iff_ne, ne_eq, decide_eq_decide]
  omega

/-- A byte as a two's-complement number. -/
theorem toInt_byte (v : Byte) : v.toInt = v.toNat - 256 * (v.toNat / 128 : Nat) := by
  have h := v.isLt
  rw [BitVec.toInt_eq_toNat_cond]
  split <;> omega

/-- Complementing a byte's bits reflects its signed value. -/
theorem toInt_not_byte (m : Byte) : (~~~m).toInt = -1 - m.toInt := by
  have h := m.isLt
  rw [toInt_byte, toInt_byte, BitVec.toNat_not]
  omega

/-- V of ADC says that the signed sum does not fit in a byte. -/
theorem adcOverflow_adcResult_iff (a m : Byte) (c : Bool) :
    adcOverflow a m (adcResult a m c) = true ↔
      (a.toInt + m.toInt + c.toNat < -128 ∨ 127 < a.toInt + m.toInt + c.toNat) := by
  have ha := a.isLt
  have hm := m.isLt
  have hc := c.toNat_le
  rw [adcOverflow_iff, toNat_adcResult, toInt_byte, toInt_byte]
  omega

/-- V of SBC says that the signed difference does not fit in a byte. -/
theorem sbcOverflow_sbcResult_iff (a m : Byte) (c : Bool) :
    sbcOverflow a m (sbcResult a m c) = true ↔
      (a.toInt - m.toInt - (1 - c.toNat) < -128 ∨ 127 < a.toInt - m.toInt - (1 - c.toNat)) := by
  rw [sbcOverflow_eq_adcOverflow_not, sbcResult_eq_adcResult_not, adcOverflow_adcResult_iff, toInt_not_byte]
  omega

/-- The difference is zero exactly when the bytes are equal (R203). -/
theorem sub_beq_zero (r m : Byte) : (r - m == 0) = (r == m) := by
  rw [Bool.eq_iff_iff, beq_iff_eq, beq_iff_eq, sub_eq_zero]

/-! ### The bits of P after the Zero/Negative update -/

theorem getLsbD_pZN (p v : Byte) (j : Nat) :
    (pZN p v).getLsbD j = if j = 7 then v.getLsbD 7 else if j = 1 then v == 0 else p.getLsbD j := by
  rw [pZN, getLsbD_withBit _ _ _ _ (by decide), getLsbD_withBit _ _ _ _ (by decide)]

end Sys2Proof.Machine

namespace Sys2Proof.Claims

open Sys2Proof.Machine

/-! ### P after the flag updates -/

/-- The Zero/Negative update on a P that keeps bits 5 and 4 of `old` (R29). -/
theorem status_pZN {old p : Byte} (v : Byte) (h5 : p.getLsbD 5 = old.getLsbD 5) (h4 : p.getLsbD 4 = old.getLsbD 4) :
    Status old (pZN p v) (v.getLsbD 7) (p.getLsbD 6) (p.getLsbD 3) (p.getLsbD 2) (v == 0) (p.getLsbD 0) := by
  simp only [Status, getLsbD_pZN]
  exact ⟨rfl, rfl, h5, h4, rfl, rfl, rfl, rfl⟩

theorem statusZN_pZN (p v : Byte) : StatusZN p (pZN p v) v := status_pZN v rfl rfl

theorem statusZNC_pZN (p v : Byte) (c : Bool) : StatusZNC p (pZN (withBit p 0 c) v) v c := by
  have hbit (j : Nat) : (withBit p 0 c).getLsbD j = if j = 0 then c else p.getLsbD j :=
    getLsbD_withBit p 0 c j (by decide)
  have h := status_pZN v (hbit 5) (hbit 4)
  rwa [hbit, hbit, hbit, hbit] at h

theorem statusZNCV_pZN (p r : Byte) (c v : Bool) : StatusZNCV p (pZN (withBit (withBit p 0 c) 6 v) r) r c v := by
  have hbit (j : Nat) :
      (withBit (withBit p 0 c) 6 v).getLsbD j = if j = 6 then v else if j = 0 then c else p.getLsbD j := by
    rw [getLsbD_withBit _ _ _ _ (by decide), getLsbD_withBit _ _ _ _ (by decide)]
  have h := status_pZN r (hbit 5) (hbit 4)
  rwa [hbit, hbit, hbit, hbit] at h

/-! ### From what a handler does to what its encodings do

An opcode decodes to its instruction, the instruction answers `g`, and `g` meets the rule. The first two are computations
on the opcode table and on the dispatch, for any operand and any state. -/

section
variable {op : Byte}

theorem OneByte.of_register {i : Instr} {f : State → State} {v : State → Byte}
    (hd : ∀ rest, decode (op :: rest) = .ok (i, rest) := by intros; rfl)
    (hx : ∀ s, exec i s = .next { f s with p := pZN s.p (v s), pc := s.pc + 1 } := by intros; rfl) :
    OneByte op i (RegisterRule f v) :=
  ⟨hd, fun s => ⟨_, hx s, rfl, statusZN_pZN s.p (v s)⟩⟩

theorem ByteForm.of_exec {mk : Byte → Instr} {K : State → Byte → Word → State → Prop}
    {g : State → Byte → Word → State} (hK : ∀ s m n, K s m n (g s m n))
    (hd : ∀ b rest, decode (op :: b :: rest) = .ok (mk b, rest) := by intros; rfl)
    (hx : ∀ b s, exec (mk b) s = .next (g s b 2) := by intros; rfl) : ByteForm op mk (AtImm K) :=
  fun b => ⟨hd b, fun s => ⟨_, hx b s, hK s b 2⟩⟩

/-- A rule of the operand byte, at the byte read from an effective address (R158). -/
theorem atMem_of_rule {K : State → Byte → Word → State → Prop} {g : State → Byte → Word → State}
    (hK : ∀ s m n, K s m n (g s m n)) (s : State) (ea n : Word) : AtMem K s ea n (g s (s.read ea) n) :=
  hK s (s.read ea) n

variable {Q : State → Word → Word → State → Prop} {g : State → Word → Word → State}

theorem Mem2.of_exec {mk : Byte → Instr} {ea : Byte → State → Word} (hQ : ∀ s a n, Q s a n (g s a n))
    (hd : ∀ b rest, decode (op :: b :: rest) = .ok (mk b, rest) := by intros; rfl)
    (hx : ∀ b s, exec (mk b) s = .next (g s (ea b s) 2) := by intros; rfl) : Mem2 op mk ea Q :=
  fun b => ⟨hd b, fun s => ⟨_, hx b s, hQ s _ 2⟩⟩

theorem Mem3.of_exec {mk : Word → Instr} {ea : Word → State → Word} (hQ : ∀ s a n, Q s a n (g s a n))
    (hd : ∀ (lo hi : Byte) rest, decode (op :: lo :: hi :: rest) = .ok (mk (hi ++ lo : BitVec 16), rest) := by
      intros; rfl)
    (hx : ∀ w s, exec (mk w) s = .next (g s (ea w s) 3) := by intros; rfl) : Mem3 op mk ea Q :=
  fun lo hi => ⟨hd lo hi, fun s => ⟨_, hx _ s, hQ s _ 3⟩⟩

end

/-! ### The handlers meet their rules -/

section
variable (reg : State → Byte) (s : State) (m : Byte) (ea n : Word)

theorem adcRule_adc : AdcRule s m n ((s.advance n).adc m) := by
  rw [State.adc_update, adcResult_eq_mod]
  exact ⟨rfl, statusZNCV_pZN _ _ _ _⟩

theorem sbcRule_sbc : SbcRule s m n ((s.advance n).sbc m) := by
  rw [State.sbc_update]
  exact ⟨rfl, statusZNCV_pZN _ _ _ _⟩

theorem compareRule_compare : CompareRule reg s m n ((s.advance n).compare (reg s) m) := by
  have h := statusZNC_pZN s.p (reg s - m) (decide (m.toNat ≤ (reg s).toNat))
  rw [StatusZNC, sub_beq_zero] at h
  exact ⟨rfl, h⟩

theorem stepMemRule_incAt : StepMemRule (fun m => m + 1) s ea n ((s.advance n).incAt ea) := by
  rw [State.incAt_update, State.write_advance, State.read_advance]
  exact ⟨rfl, statusZN_pZN _ _⟩

theorem stepMemRule_decAt : StepMemRule (fun m => m - 1) s ea n ((s.advance n).decAt ea) := by
  rw [State.decAt_update, State.write_advance, State.read_advance]
  exact ⟨rfl, statusZN_pZN _ _⟩

end

/-! ### Overflow -/

section
variable {s t : State} {m : Byte} {n : Word}

theorem AdcRule.overflow_iff (h : AdcRule s m n t) :
    t.p.getLsbD 6 = true ↔
      (s.a.toInt + m.toInt + (s.p.getLsbD 0).toNat < -128 ∨ 127 < s.a.toInt + m.toInt + (s.p.getLsbD 0).toNat) := by
  obtain ⟨-, -, hv, -⟩ := h
  rw [hv, ← adcOverflow_adcResult_iff, adcResult_eq_mod]
  rfl

theorem SbcRule.overflow_iff (h : SbcRule s m n t) :
    t.p.getLsbD 6 = true ↔
      (s.a.toInt - m.toInt - (1 - (s.p.getLsbD 0).toNat) < -128 ∨
        127 < s.a.toInt - m.toInt - (1 - (s.p.getLsbD 0).toNat)) := by
  obtain ⟨-, -, hv, -⟩ := h
  rw [hv, ← sbcOverflow_sbcResult_iff]
  rfl

end

/-! ### The six statements -/

/-- Settles O1: the one rule of ADC, at each addressing mode. -/
theorem adcAddsWithCarryInEveryMode : Obligations.AdcAddsWithCarryInEveryMode := by
  have hmem := atMem_of_rule adcRule_adc
  exact ⟨.of_exec adcRule_adc, .of_exec hmem, .of_exec hmem, .of_exec hmem, .of_exec hmem, .of_exec hmem,
    .of_exec hmem, .of_exec hmem⟩

/-- Settles O2: the one rule of SBC, at each addressing mode. -/
theorem sbcSubtractsWithBorrowInEveryMode : Obligations.SbcSubtractsWithBorrowInEveryMode := by
  have hmem := atMem_of_rule sbcRule_sbc
  exact ⟨.of_exec sbcRule_sbc, .of_exec hmem, .of_exec hmem, .of_exec hmem, .of_exec hmem, .of_exec hmem,
    .of_exec hmem, .of_exec hmem⟩

/-- Settles O3: V is the overflow of the rules of ADC and SBC, the latter an addition of the complement. -/
theorem overflowIsSignedOverflow : Obligations.OverflowIsSignedOverflow := fun s m =>
  ⟨⟨_, rfl, (adcRule_adc s m 2).overflow_iff⟩, ⟨_, rfl, (sbcRule_sbc s m 2).overflow_iff⟩⟩

/-- Settles O4: the one rule of a compare, for three registers at each of their addressing modes. -/
theorem comparesWriteCarryZeroNegativeOnly : Obligations.ComparesWriteCarryZeroNegativeOnly := by
  have himm := compareRule_compare
  have hmem (reg : State → Byte) := atMem_of_rule (compareRule_compare reg)
  exact ⟨.of_exec (himm _), .of_exec (hmem _), .of_exec (hmem _), .of_exec (hmem _), .of_exec (hmem _),
    .of_exec (hmem _), .of_exec (hmem _), .of_exec (hmem _), .of_exec (himm _), .of_exec (hmem _), .of_exec (hmem _),
    .of_exec (himm _), .of_exec (hmem _), .of_exec (hmem _)⟩

/-- Settles O5: the rules of INC and DEC, at each addressing mode. -/
theorem incAndDecStepMemoryOnce : Obligations.IncAndDecStepMemoryOnce := by
  have hinc := stepMemRule_incAt
  have hdec := stepMemRule_decAt
  exact ⟨.of_exec hinc, .of_exec hinc, .of_exec hinc, .of_exec hinc,
    .of_exec hdec, .of_exec hdec, .of_exec hdec, .of_exec hdec⟩

/-- Settles O6: nine set a register and Z, N of it; TXS sets SP alone. -/
theorem registerInstructionsCopyOrStep : Obligations.RegisterInstructionsCopyOrStep :=
  ⟨.of_register, .of_register, .of_register, .of_register, .of_register, .of_register, .of_register, .of_register,
    .of_register, fun _ => rfl, fun _ => ⟨_, rfl, rfl⟩⟩

end Sys2Proof.Claims

/-! # The stack instructions (R220 to R223) -/

namespace Sys2Proof.Machine

/-- A push after PC has moved is the same Bus write, with SP one lower (R60). -/
theorem State.push_advance (s : State) (n : Word) (v : Byte) :
    (s.advance n).push v = { s.write (stackAddr s.sp) v with sp := s.sp - 1, pc := s.pc + n } := by
  rw [State.push_update, State.write_advance]
  rfl

end Sys2Proof.Machine

namespace Sys2Proof.Claims

open Sys2Proof.Machine

/-- A one-byte instruction whose handler, run with PC past the opcode, meets the rule (R157). -/
theorem OneByte.of_implied {op : Byte} {i : Instr} {h : State → State} {Q : State → State → Prop}
    (hQ : ∀ s, Q s (h (s.advance 1)))
    (hd : ∀ rest, decode (op :: rest) = .ok (i, rest) := by intros; rfl)
    (hx : ∀ s, exec i s = onImplied h s := by intros; rfl) : OneByte op i Q :=
  ⟨hd, fun s => ⟨_, hx s, hQ s⟩⟩

/-- Settles O7: PHA and PHP are a push; PLA and PLP load the popped byte, PLA with its Z and N. -/
theorem stackInstructionsPushAndPull : Obligations.StackInstructionsPushAndPull := by
  refine ⟨.of_implied (h := State.pha) fun s => ?_, .of_implied (h := State.php) fun s => ?_,
    .of_implied (h := State.pla) fun s => ?_, .of_implied (h := State.plp) fun s => ?_⟩
  · exact s.push_advance 1 s.a
  · exact s.push_advance 1 (pushedStatus s.p)
  · rw [State.pla_update, State.popValue_eq, State.read_advance]
    exact ⟨rfl, statusZN_pZN s.p _⟩
  · rw [State.plp_update, State.popValue_eq, State.read_advance]
    rfl

end Sys2Proof.Claims


/-! # Control transfer: JSR, RTS, BRK, RTI and the branches (R241 to R253, R420, R421) -/

namespace Sys2Proof.Machine

/-- A Bus write does not look at PC. -/
theorem State.write_setPc (s : State) (pc ea : Word) (v : Byte) :
    (s.setPc pc).write ea v = (s.write ea v).setPc pc := by
  have h := State.write_update s s.p s.sp pc ea v
  rw [State.write_eq s] at h ⊢
  exact h

/-- JSR with PC past its bytes: the two pushes do not look at the PC that names the return address (R241). -/
theorem State.jsr_advance (s : State) (n target : Word) :
    (s.advance n).jsr target =
      { (s.write (stackAddr s.sp) (highByte (s.pc + n - 1))).write (stackAddr (s.sp - 1)) (lowByte (s.pc + n - 1)) with
        sp := s.sp - 2
        pc := target } := by
  simp [State.jsr_update, State.advance, State.write_setPc]

/-- The trap with PC past BRK's bytes (R243): three pushes, I, and the vector. -/
theorem State.takeTrap_advance (s : State) (n : Word) :
    (s.advance n).takeTrap =
      { ((s.write (stackAddr s.sp) (highByte (s.pc + n))).write (stackAddr (s.sp - 1)) (lowByte (s.pc + n))).write
          (stackAddr (s.sp - 2)) (pushedStatus s.p) with
        sp := s.sp - 3
        p := withBit s.p 2 true
        pc := s.read16 brkVector } := by
  simp [State.takeTrap_update, State.advance, State.write_setPc, State.read16]

/-! ### What a push above leaves for the pops below it -/

/-- Past one pushed byte lies the word the stack held before (R60, R63). -/
theorem State.popped_pop16Value_push (s : State) (v : Byte) : (s.push v).popped.pop16Value = s.pop16Value := by
  have h1 : s.sp + 1 ≠ s.sp := by bv_omega
  have h2 : s.sp + 2 ≠ s.sp := by bv_omega
  rw [State.pop16Value_eq, State.popped, State.push, State.setSp_sp, State.setSp_sp, BitVec.sub_add_cancel,
    State.read_setSp, State.read_setSp, State.read_setSp, State.read_setSp, State.read_write_stack_other s v h1,
    State.read_write_stack_other s v h2, State.pop16Value_eq]

/-- Loading the pushed copy gives the live P back: only B was added (R25, R243, R244). -/
theorem pulledStatus_pushedStatus {p : Byte} (h : statusOk p = true) : pulledStatus (pushedStatus p) = p := by
  obtain ⟨h5, h4⟩ : p.getLsbD 5 = true ∧ p.getLsbD 4 = false := by
    simpa only [statusOk, Bool.and_eq_true, Bool.not_eq_true'] using h
  refine byte_ext fun j hj => ?_
  rw [getLsbD_pulledStatus _ j hj, getLsbD_pushedStatus p j hj]
  split_ifs with hb hu hbu
  · rw [hb, h4]
  · rw [hu, h5]
  · exact absurd hbu (by simp [hb, hu])
  · rfl

/-! ### The stack a call leaves, and the return from it (R241 to R244, R421)

The pops look at SP and memory, not at the registers the code in between may have changed. -/

theorem State.pop16Value_setPc (s : State) (pc : Word) : (s.setPc pc).pop16Value = s.pop16Value := rfl

theorem State.pop16Value_jsr (s : State) (target : Word) : (s.jsr target).pop16Value = s.pc - 1 := by
  rw [State.jsr, State.pop16Value_setPc, State.pop16Value_push16]

theorem State.popped16_jsr_sp (s : State) (target : Word) : (s.jsr target).popped16.sp = s.sp := by
  rw [State.popped16_update, State.jsr_update]
  exact BitVec.sub_add_cancel _ _

/-- The trap after its three pushes writes P and PC alone. -/
theorem State.takeTrap_eq (s : State) :
    s.takeTrap = (((s.push16 s.pc).push (pushedStatus s.p)).setP s.takeTrap.p).setPc s.takeTrap.pc := rfl

theorem State.popValue_takeTrap (s : State) : s.takeTrap.popValue = pushedStatus s.p := by
  have hregs (t : State) (p : Byte) (pc : Word) : ((t.setP p).setPc pc).popValue = t.popValue := rfl
  rw [State.takeTrap_eq, hregs, State.popValue_push]

theorem State.popped_pop16Value_takeTrap (s : State) : s.takeTrap.popped.pop16Value = s.pc := by
  have hregs (t : State) (p : Byte) (pc : Word) :
      ((t.setP p).setPc pc).popped.pop16Value = t.popped.pop16Value := rfl
  rw [State.takeTrap_eq, hregs, State.popped_pop16Value_push, State.pop16Value_push16]

theorem State.popped_popped16_takeTrap_sp (s : State) : s.takeTrap.popped.popped16.sp = s.sp := by
  rw [State.popped16_update, State.popped_update, State.takeTrap_update]
  dsimp only
  bv_omega

theorem exec_rti_registers (t : State) (a x y p : Byte) (pc : Word) :
    exec .rti { t with a := a, x := x, y := y, p := p, pc := pc } =
      .next { t with
        a := a, x := x, y := y, p := pulledStatus t.popValue, sp := t.popped.popped16.sp,
        pc := t.popped.pop16Value } := rfl

theorem exec_rts_registers (t : State) (a x y p : Byte) (pc : Word) :
    exec .rts { t with a := a, x := x, y := y, p := p, pc := pc } =
      .next { t with a := a, x := x, y := y, p := p, sp := t.popped16.sp, pc := t.pop16Value + 1 } := rfl

end Sys2Proof.Machine

namespace Sys2Proof.Claims

open Sys2Proof.Machine

/-- An instruction that branches on a bit of P (R245). -/
theorem ByteForm.of_branch {op : Byte} {mk : Byte → Instr} {cond : Byte → Bool}
    (hd : ∀ b rest, decode (op :: b :: rest) = .ok (mk b, rest) := by intros; rfl)
    (hx : ∀ b s, exec (mk b) s = onBranch b (fun t => cond t.p) s := by intros; rfl) :
    ByteForm op mk (BranchRule cond) :=
  fun b => ⟨hd b, fun s => ⟨_, (hx b s).trans (onBranch_eq b _ s), rfl⟩⟩

/-- Settles O9: with PC past its three bytes, PC - 1 is the address of JSR's last byte. -/
theorem jsrPushesTheAddressOfItsLastByte : Obligations.JsrPushesTheAddressOfItsLastByte := by
  refine fun lo hi => ⟨fun _ => rfl, fun s => ⟨_, rfl, ?_⟩⟩
  have hret : s.pc + 3 - 1 = s.pc + 2 := by bv_omega
  rw [State.jsr_advance, hret]
  rfl

/-- Settles O10: the popped word plus 1. -/
theorem rtsReturnsPastThePoppedAddress : Obligations.RtsReturnsPastThePoppedAddress := by
  refine .of_implied (h := State.rts) fun s => ?_
  rw [State.rts_update, State.pop16Value_eq]
  rfl

/-- Settles O11: the trap, taken with PC past the signature byte. -/
theorem brkTakesTheTrap : Obligations.BrkTakesTheTrap :=
  fun _ => ⟨fun _ => rfl, fun s => ⟨_, rfl, State.takeTrap_advance s 2⟩⟩

/-- Settles O12: the return from the trap, which pops P and then PC. -/
theorem rtiRestoresStatusAndPc : Obligations.RtiRestoresStatusAndPc := by
  refine .of_implied (h := State.returnFromTrap) fun s => ?_
  rw [State.returnFromTrap_update, State.popValue_eq]
  rfl

/-- Settles O13: a branch on each side of the four flags. -/
theorem branchesFollowTheirFlag : Obligations.BranchesFollowTheirFlag :=
  ⟨.of_branch, .of_branch, .of_branch, .of_branch, .of_branch, .of_branch, .of_branch, .of_branch⟩

/-- Settles O27: BRK is the trap with PC past its two bytes; JSR pushes PC - 1 and RTS adds the 1 again. -/
theorem returnsUndoTheirCalls : Obligations.ReturnsUndoTheirCalls := by
  intro s sig a x y p w pc
  refine ⟨fun hp => ⟨(s.advance 2).takeTrap, rfl, _, exec_rti_registers _ a x y p pc, ?_⟩,
    ⟨(s.advance 3).jsr w, rfl, _, exec_rts_registers _ a x y p pc, ?_⟩⟩
  · have hpulled : pulledStatus (s.advance 2).takeTrap.popValue = s.p := by
      rw [State.popValue_takeTrap, State.advance_p, pulledStatus_pushedStatus hp]
    exact ⟨State.popped_pop16Value_takeTrap _, hpulled, State.popped_popped16_takeTrap_sp _, rfl, rfl, rfl⟩
  · have hpc : ((s.advance 3).jsr w).pop16Value + 1 = s.pc + 3 := by
      rw [State.pop16Value_jsr, BitVec.sub_add_cancel]
      rfl
    exact ⟨hpc, State.popped16_jsr_sp _ w, rfl, rfl, rfl, rfl⟩

end Sys2Proof.Claims


/-! # Loads and stores (R260 to R265) -/

namespace Sys2Proof.Claims

open Sys2Proof.Machine

section
variable (reg : State → Byte) (s : State) (m : Byte) (ea n : Word)

theorem ldaRule_lda : LdaRule s m n ((s.advance n).lda m) := by
  rw [State.lda_update]
  exact ⟨rfl, statusZN_pZN s.p m⟩

theorem ldxRule_ldx : LdxRule s m n ((s.advance n).ldx m) := by
  rw [State.ldx_update]
  exact ⟨rfl, statusZN_pZN s.p m⟩

theorem ldyRule_ldy : LdyRule s m n ((s.advance n).ldy m) := by
  rw [State.ldy_update]
  exact ⟨rfl, statusZN_pZN s.p m⟩

/-- The one Bus write of a store, made with PC past the instruction, does not look at PC. -/
theorem storeRule_write : StoreRule reg s ea n ((s.advance n).write ea (reg s)) :=
  State.write_advance s n ea (reg s)

end

/-- Settles O14: the one rule of each load, at its Immediate operand and at each of its effective addresses. -/
theorem loadsSetTheirRegisterAndZN : Obligations.LoadsSetTheirRegisterAndZN := by
  have ha := atMem_of_rule ldaRule_lda
  have hx := atMem_of_rule ldxRule_ldx
  have hy := atMem_of_rule ldyRule_ldy
  exact ⟨.of_exec ldaRule_lda, .of_exec ha, .of_exec ha, .of_exec ha, .of_exec ha, .of_exec ha, .of_exec ha,
    .of_exec ha, .of_exec ldxRule_ldx, .of_exec hx, .of_exec hx, .of_exec hx, .of_exec hx, .of_exec ldyRule_ldy,
    .of_exec hy, .of_exec hy, .of_exec hy, .of_exec hy⟩

/-- Settles O15: the one rule of a store, for three registers at each of their effective addresses. -/
theorem storesWriteOnceAtTheEffectiveAddress : Obligations.StoresWriteOnceAtTheEffectiveAddress := by
  have hstore := storeRule_write
  exact ⟨.of_exec (hstore _), .of_exec (hstore _), .of_exec (hstore _), .of_exec (hstore _), .of_exec (hstore _),
    .of_exec (hstore _), .of_exec (hstore _), .of_exec (hstore _), .of_exec (hstore _), .of_exec (hstore _),
    .of_exec (hstore _), .of_exec (hstore _), .of_exec (hstore _)⟩

end Sys2Proof.Claims


/-! # Logic, bit test, shifts and rotates (R300 to R308) -/

namespace Sys2Proof.Machine

/-! ### One bit left or right, and a carry in, as arithmetic -/

/-- Bit 0 is what a right shift moves out. -/
theorem getLsbD_zero_eq_beq (v : Byte) : v.getLsbD 0 = (v.toNat % 2 == 1) := Nat.testBit_zero v.toNat

/-- Bit 7 is what a left shift moves out. -/
theorem getLsbD_seven_eq_beq (v : Byte) : v.getLsbD 7 = (v.toNat / 128 == 1) := by
  have hv := v.isLt
  have hmsb : v.getLsbD 7 = decide (128 ≤ v.toNat) := v.msb_eq_decide
  rw [hmsb, Bool.eq_iff_iff, decide_eq_true_iff, beq_iff_eq]
  omega

theorem shiftLeft_one_eq_ofNat (v : Byte) : v <<< 1 = BitVec.ofNat 8 (2 * v.toNat) := by
  apply BitVec.eq_of_toNat_eq
  rw [BitVec.toNat_shiftLeft, Nat.shiftLeft_eq, BitVec.toNat_ofNat, Nat.mul_comm, pow_one]

theorem ushiftRight_one_eq_ofNat (v : Byte) : v >>> 1 = BitVec.ofNat 8 (v.toNat / 2) := by
  rw [← Nat.pow_one 2, ← Nat.shiftRight_eq_div_pow, ← BitVec.toNat_ushiftRight, BitVec.ofNat_toNat,
    BitVec.setWidth_eq]

/-- Setting a clear bit adds its weight. -/
theorem or_twoPow_eq_add {v : Byte} {k : Nat} (hk : v.getLsbD k = false) :
    v ||| BitVec.twoPow 8 k = v + BitVec.twoPow 8 k := by
  have hdisjoint : v &&& BitVec.twoPow 8 k = 0#8 := by
    rw [BitVec.and_twoPow, hk]
    rfl
  exact (BitVec.add_eq_or_of_and_eq_zero v _ hdisjoint).symm

/-- A carry enters at a clear bit as its weight. -/
theorem or_carry_eq_ofNat {v : Byte} {x k : Nat} (hv : v = BitVec.ofNat 8 x) (hk : v.getLsbD k = false) (c : Bool) :
    v ||| (if c then BitVec.twoPow 8 k else 0) = BitVec.ofNat 8 (x + 2 ^ k * c.toNat) := by
  cases c with
  | false => exact BitVec.or_zero.trans hv
  | true =>
    have hweight : BitVec.twoPow 8 k = BitVec.ofNat 8 (2 ^ k) := BitVec.eq_of_toNat_eq (BitVec.toNat_twoPow 8 k)
    rw [if_pos rfl, or_twoPow_eq_add hk, hv, hweight, ← BitVec.ofNat_add, Bool.toNat_true, mul_one]

/-! ### P after BIT -/

/-- N and V are bits 7 and 6 of the operand, Z is of `A & m` (R303). -/
theorem getLsbD_bitTest_p (s : State) (m : Byte) (j : Nat) :
    (s.bitTest m).p.getLsbD j =
      if j = 6 then m.getLsbD 6 else if j = 7 then m.getLsbD 7 else if j = 1 then (s.a &&& m) == 0
      else s.p.getLsbD j := by
  rw [State.bitTest_update, getLsbD_withBit _ _ _ _ (by decide), getLsbD_withBit _ _ _ _ (by decide),
    getLsbD_withBit _ _ _ _ (by decide)]

end Sys2Proof.Machine

namespace Sys2Proof.Claims

open Sys2Proof.Machine

/-! ### Logic and bit test -/

/-- A handler that combines A with its operand by `f` and sets Z and N of the result (R300 to R302). -/
theorem logicRule_of_update {f : Byte → Byte → Byte} {h : State → Byte → State}
    (hh : ∀ s m, h s m = { s with a := f s.a m, p := pZN s.p (f s.a m) }) (s : State) (m : Byte) (n : Word) :
    LogicRule f s m n (h (s.advance n) m) := by
  rw [hh]
  exact ⟨rfl, statusZN_pZN s.p _⟩

theorem bitRule_bitTest (s : State) (m : Byte) (n : Word) : BitRule s m n ((s.advance n).bitTest m) := by
  have hbit := getLsbD_bitTest_p (s.advance n) m
  exact ⟨rfl, hbit 7, hbit 6, hbit 5, hbit 4, hbit 3, hbit 2, hbit 1, hbit 0⟩

/-- Settles O16: the one rule of a logic operation, for AND, ORA and EOR at each of their addressing modes. -/
theorem logicOperationsSetAAndZN : Obligations.LogicOperationsSetAAndZN := by
  have hand : ∀ s m n, LogicRule (fun a m => a &&& m) s m n ((s.advance n).andA m) :=
    logicRule_of_update State.andA_update
  have hora : ∀ s m n, LogicRule (fun a m => a ||| m) s m n ((s.advance n).oraA m) :=
    logicRule_of_update State.oraA_update
  have heor : ∀ s m n, LogicRule (fun a m => a ^^^ m) s m n ((s.advance n).eorA m) :=
    logicRule_of_update State.eorA_update
  have handMem := atMem_of_rule hand
  have horaMem := atMem_of_rule hora
  have heorMem := atMem_of_rule heor
  exact ⟨.of_exec hand, .of_exec handMem, .of_exec handMem, .of_exec handMem, .of_exec handMem, .of_exec handMem,
    .of_exec handMem, .of_exec handMem,
    .of_exec hora, .of_exec horaMem, .of_exec horaMem, .of_exec horaMem, .of_exec horaMem, .of_exec horaMem,
    .of_exec horaMem, .of_exec horaMem,
    .of_exec heor, .of_exec heorMem, .of_exec heorMem, .of_exec heorMem, .of_exec heorMem, .of_exec heorMem,
    .of_exec heorMem, .of_exec heorMem⟩

/-- Settles O17: the one rule of BIT, at its two addressing modes. -/
theorem bitTakesNAndVFromTheOperand : Obligations.BitTakesNAndVFromTheOperand := by
  have hbit := atMem_of_rule bitRule_bitTest
  exact ⟨.of_exec hbit, .of_exec hbit⟩

/-! ### The shifts and rotates as arithmetic -/

/-- A shift of the model leaves the byte of the arithmetic, and moves out its carry. -/
def Computes (f : Byte → Bool → Shifted) (g : ShiftSpec) : Prop :=
  ∀ v c, f v c = { result := BitVec.ofNat 8 (g.result v.toNat c.toNat), carryOut := g.carry v.toNat == 1 }

theorem shiftLeft_computes : Computes shiftLeft aslSpec := fun v _ =>
  congrArg₂ Shifted.mk (shiftLeft_one_eq_ofNat v) (getLsbD_seven_eq_beq v)

theorem shiftRight_computes : Computes shiftRight lsrSpec := fun v _ =>
  congrArg₂ Shifted.mk (ushiftRight_one_eq_ofNat v) (getLsbD_zero_eq_beq v)

/-- The old carry enters bit 0, which the left shift has cleared (R307). -/
theorem rotateLeft_computes : Computes rotateLeft rolSpec := fun v c => by
  have hresult := or_carry_eq_ofNat (k := 0) (shiftLeft_one_eq_ofNat v) (by simp) c
  rw [pow_zero, one_mul] at hresult
  exact congrArg₂ Shifted.mk hresult (getLsbD_seven_eq_beq v)

/-- The old carry enters bit 7, which the right shift has cleared (R308). -/
theorem rotateRight_computes : Computes rotateRight rorSpec := fun v c =>
  congrArg₂ Shifted.mk (or_carry_eq_ofNat (k := 7) (ushiftRight_one_eq_ofNat v) (by simp) c) (getLsbD_zero_eq_beq v)

/-! ### The two places of a shift -/

section
variable {f : Byte → Bool → Shifted} {g : ShiftSpec}

theorem shiftAccRule_shiftAt (hf : Computes f g) (s : State) :
    ShiftAccRule g s ((s.advance 1).shiftAt f .accumulator) := by
  rw [State.shiftAt_accumulator, hf]
  exact ⟨rfl, statusZNC_pZN s.p _ _⟩

/-- The one Bus write of a shift in memory is at the address it read (R304). -/
theorem shiftMemRule_shiftAt (hf : Computes f g) (s : State) (ea n : Word) :
    ShiftMemRule g s ea n ((s.advance n).shiftAt f (.mem ea)) := by
  rw [State.shiftAt_mem, State.write_advance, State.read_advance, hf]
  exact ⟨rfl, statusZNC_pZN s.p _ _⟩

theorem OneByte.of_accumulator {op : Byte} {i : Instr} (hf : Computes f g)
    (hd : ∀ rest, decode (op :: rest) = .ok (i, rest) := by intros; rfl)
    (hx : ∀ s, exec i s = onAccumulator f s := by intros; rfl) : OneByte op i (ShiftAccRule g) :=
  ⟨hd, fun s => ⟨_, hx s, shiftAccRule_shiftAt hf s⟩⟩

end

/-- Settles O18: four shifts as arithmetic, each in A and at each of its four addressing modes. -/
theorem shiftsAndRotatesMoveOneBitThroughCarry : Obligations.ShiftsAndRotatesMoveOneBitThroughCarry := by
  have hasl := shiftMemRule_shiftAt shiftLeft_computes
  have hlsr := shiftMemRule_shiftAt shiftRight_computes
  have hrol := shiftMemRule_shiftAt rotateLeft_computes
  have hror := shiftMemRule_shiftAt rotateRight_computes
  exact ⟨⟨.of_accumulator shiftLeft_computes, .of_exec hasl, .of_exec hasl, .of_exec hasl, .of_exec hasl⟩,
    ⟨.of_accumulator shiftRight_computes, .of_exec hlsr, .of_exec hlsr, .of_exec hlsr, .of_exec hlsr⟩,
    ⟨.of_accumulator rotateLeft_computes, .of_exec hrol, .of_exec hrol, .of_exec hrol, .of_exec hrol⟩,
    ⟨.of_accumulator rotateRight_computes, .of_exec hror, .of_exec hror, .of_exec hror, .of_exec hror⟩⟩

end Sys2Proof.Claims

/-! # The flag instructions and NOP (R320 to R327) -/

namespace Sys2Proof.Claims

open Sys2Proof.Machine

/-- A flag write with PC past the opcode: every flag but `f` keeps its value, and `f` is neither B nor U (R26). -/
theorem flagRule_setFlag {f : Flag} (hb : f ≠ .breakCommand) (hu : f ≠ .unused) (b : Bool) (s : State) :
    FlagRule (fun s q => Status s.p q (if .negative = f then b else s.flag .negative)
      (if .overflow = f then b else s.flag .overflow) (if .decimal = f then b else s.flag .decimal)
      (if .interruptDisable = f then b else s.flag .interruptDisable) (if .zero = f then b else s.flag .zero)
      (if .carry = f then b else s.flag .carry)) s ((s.advance 1).setFlag f b) := by
  have hflag (g : Flag) : ((s.advance 1).setFlag f b).flag g = if g = f then b else s.flag g :=
    State.flag_setFlag (s.advance 1) f g b
  have hunused := (hflag .unused).trans (if_neg hu.symm)
  have hbreak := (hflag .breakCommand).trans (if_neg hb.symm)
  exact ⟨rfl, hflag .negative, hflag .overflow, hunused, hbreak, hflag .decimal, hflag .interruptDisable,
    hflag .zero, hflag .carry⟩

/-- A one-byte instruction whose handler writes one flag. -/
theorem OneByte.of_setFlag {op : Byte} {i : Instr} {f : Flag} {b : Bool} {Q : State → Byte → Prop}
    (hQ : ∀ s, FlagRule Q s ((s.advance 1).setFlag f b))
    (hd : ∀ rest, decode (op :: rest) = .ok (i, rest) := by intros; rfl)
    (hx : ∀ s, exec i s = onImplied (fun t => t.setFlag f b) s := by intros; rfl) : OneByte op i (FlagRule Q) :=
  .of_implied hQ hd hx

/-- Settles O19: seven write one flag each, with PC past the opcode; NOP's handler does nothing. -/
theorem flagInstructionsWriteOneFlag : Obligations.FlagInstructionsWriteOneFlag := by
  have hcarry := flagRule_setFlag (f := .carry) (by decide) (by decide)
  have hdecimal := flagRule_setFlag (f := .decimal) (by decide) (by decide)
  have hinterrupt := flagRule_setFlag (f := .interruptDisable) (by decide) (by decide)
  have hoverflow := flagRule_setFlag (f := .overflow) (by decide) (by decide)
  exact ⟨.of_setFlag (hcarry false), .of_setFlag (hdecimal false), .of_setFlag (hinterrupt false),
    .of_setFlag (hoverflow false), .of_setFlag (hcarry true), .of_setFlag (hdecimal true),
    .of_setFlag (hinterrupt true), .of_implied (h := id) fun _ => rfl⟩

end Sys2Proof.Claims

/-! # What no instruction touches: the host's fields, the cartridge and CHR-RAM (R400, R425, R463) -/

namespace Sys2Proof.Machine

/-- No writer of an instruction reaches the recorded fault, the cycle counter, the cartridge, CHR-RAM or the draw
numbers; of the writers only the Bus write needs an argument, which its frame lemmas give. -/
theorem keeps_hostFields (i : Instr) (s : State) : Keeps i fun t =>
    t.fault = s.fault ∧ t.cyclesRemaining = s.cyclesRemaining ∧ t.cart = s.cart ∧ t.chrRam = s.chrRam ∧
      t.drawIndex = s.drawIndex ∧ t.cartRamDraw = s.cartRamDraw where
  setPc _ _ h := h
  setA _ _ _ h := h
  setX _ _ _ h := h
  setY _ _ _ h := h
  setSp _ _ _ h := h
  setFlag _ _ _ h := h
  pullP _ _ _ h := h
  write ea v t h := by
    simpa only [State.write_fault, State.write_cyclesRemaining, State.write_cart, State.write_chrRam,
      State.write_drawIndex, State.write_cartRamDraw] using h

end Sys2Proof.Machine

namespace Sys2Proof.Claims

open Sys2Proof.Machine

/-- Settles O21: the instruction's writers keep these fields, and from every state it completes. -/
theorem everyInstructionCompletes : Obligations.EveryInstructionCompletes := fun i s =>
  (keeps_hostFields i s).exec ⟨rfl, rfl, rfl, rfl, rfl, rfl⟩

end Sys2Proof.Claims


/-! # The cycle counter of `clock()` (R460), and the state after construction (R450, R451, R452) -/

namespace Sys2Proof.Machine

section
variable {s t : State}

/-- A step that completes returns the base cycle count of the opcode that was at PC (R144). -/
theorem hostStep_of_next (h : step s = .next t) : hostStep s = (t, .next (baseCycles (s.read s.pc))) := by
  simp only [hostStep, h]

/-- A cycle that an earlier instruction left pending is counted down, and nothing else happens. -/
theorem clock_of_pending (hf : s.fault = none) (hc : s.cyclesRemaining ≠ 0) :
    clock s = (s.setCyclesRemaining (s.cyclesRemaining - 1), .next ()) := by
  simp only [clock, hf, if_neg hc]

/-- The first cycle of a window runs the whole instruction and leaves the other cycles of its count pending. -/
theorem clock_of_next (hf : s.fault = none) (hc : s.cyclesRemaining = 0) (h : step s = .next t) :
    clock s = (t.setCyclesRemaining (baseCycles (s.read s.pc) - 1), .next ()) := by
  simp only [clock, hf, if_pos hc, hostStep_of_next h]

/-- A step that faults in the first cycle leaves what `step()` leaves, and no cycle is made pending. -/
theorem clock_of_step_fault {f : Fault} (hf : s.fault = none) (hc : s.cyclesRemaining = 0) (h : step s = .fault f) :
    clock s = (((s.advance 1).setFault (some f)).nextDraw, .fault f) := by
  simp only [clock, hf, if_pos hc, hostStep_of_step_fault hf h]

end

/-- `State.reset` is what construction answers for the blank cartridge. -/
theorem construct_blankCartridge : construct blankCartridge = .next State.reset := rfl

end Sys2Proof.Machine

namespace Sys2Proof.Claims

open Sys2Proof.Machine

/-- Settles O50: the counter decides between counting down and one step; recording a fault leaves the counter. -/
theorem clockRunsAnInstructionInItsFirstCycle : Obligations.ClockRunsAnInstructionInItsFirstCycle := by
  intro s hf
  refine ⟨clock_of_pending hf, fun hc t => clock_of_next hf hc, fun hc f h => ?_⟩
  exact ⟨_, clock_of_step_fault hf hc h, hostStep_of_step_fault hf h, hc⟩

/-- Settles O46: the effect of the CPU reset, said once in `State.cpuReset_eq`. -/
theorem cpuResetValues : Obligations.CpuResetValues := State.cpuReset_eq

/-- Settles O58: what construction answers has the invariant (O57); the reset vector lies in a PRG-ROM that lists no
byte, so both its bytes are 0xFF. -/
theorem resetHasTheInvariant : Obligations.ResetHasTheInvariant := by
  obtain ⟨constructed_inv, -⟩ := hostOperationsKeepTheInvariant
  have hinv : State.reset.Inv := constructed_inv blankCartridge State.reset construct_blankCartridge
  have hpc : State.reset.pc = State.reset.read 0xFFFD ++ State.reset.read 0xFFFC := rfl
  exact ⟨hinv, rfl, rfl, rfl, rfl, rfl, rfl, rfl, hpc, construct_blankCartridge⟩

end Sys2Proof.Claims
